-- ==== Sys2Proof/Word.lean ====
section
/-! DEFINITION. The word types of the framer block (spec/00_scope.md R5): bytes, 16-bit register addresses and
lengths, the 48-bit command descriptor and the 4-bit micro-program counter. Everything is unsigned. -/

namespace Sys2Proof

/-- A byte is eight bits (00_scope.md R5). -/
abbrev Byte := BitVec 8

/-- A Register Address (10_state.md R21 `addr_q`) or a payload length (`len_q`, LENW = 16). -/
abbrev Half := BitVec 16

/-- A command descriptor on `cmd_desc` (30_encoding.md R87). -/
abbrev Descriptor := BitVec 48

/-- A value of the micro-program counter `upc` (10_state.md R25). -/
abbrev Upc := BitVec 4

end Sys2Proof
end

