-- ==== Sys2Proof/Machine/Device.lean ====
section
/-! DEFINITION. The named constants of the device the block talks to and of the bring-up sequence (spec/10_state.md R32),
and the operation codes as the engine latches them (spec/30_encoding.md R88). -/

namespace Sys2Proof.Machine.Device

/-- Mode register. -/
def MR : Half := 0x0000#16
/-- Gateway. -/
def GAR : Half := 0x0001#16
/-- Subnet mask. -/
def SUBR : Half := 0x0005#16
/-- MAC address. -/
def SHAR : Half := 0x0009#16
/-- Static IP address. -/
def SIPR : Half := 0x000F#16
/-- Version register. -/
def VERSIONR : Half := 0x0039#16

/-- Control byte of every write the source lists. -/
def CTRL_WR : Byte := 0x04#8
/-- Control byte of every read the source lists. -/
def CTRL_RD : Byte := 0x00#8

/-- Data byte of S1W, the soft reset. -/
def MR_RST : Byte := 0x80#8
/-- The value S1R must return. -/
def RST_READBACK : Byte := 0x00#8
/-- Data byte of S2W and value S2R is compared with. -/
def PROBE_A : Byte := 0x08#8
/-- Data byte of S3W and value S3R is compared with. -/
def PROBE_B : Byte := 0x10#8
/-- Data byte of S4W and value S4R is compared with. -/
def PROBE_C : Byte := 0x00#8
/-- The value S5R must return. -/
def VERSION_EXPECT : Byte := 0x04#8

/-- `op_q` of a READ. -/
def OP_READ : Byte := 0x01#8
/-- `op_q` of a WRITE. -/
def OP_WRITE : Byte := 0x02#8

end Sys2Proof.Machine.Device
end

