-- ==== Sys2Proof/Machine/MicroTable.lean ====
section
/-! DEFINITION. The micro-step table of the bring-up sequencer, constants wired into the block (spec/30_encoding.md R93,
spec/20_memory.md R66). -/

namespace Sys2Proof.Machine

open Sys2Proof

/-- A row of the micro-step table (30_encoding.md R93): what the step does and, for a read, the value the byte is
compared with, the source's step number and whether a mismatch is fatal. -/
inductive MicroRow where
  | write (addr : Half) (ctrl : Byte) (data : Byte)
  | wait
  | read (addr : Half) (ctrl : Byte) (expected : Byte) (step : Nat) (fatal : Bool)
  deriving DecidableEq, Repr

/-- `S1W`. -/
def rowS1W : MicroRow := .write Device.MR Device.CTRL_WR Device.MR_RST
/-- `S1WAIT`. -/
def rowS1WAIT : MicroRow := .wait
/-- `S1R`. -/
def rowS1R : MicroRow := .read Device.MR Device.CTRL_RD Device.RST_READBACK 1 true
/-- `S2W`. -/
def rowS2W : MicroRow := .write Device.MR Device.CTRL_WR Device.PROBE_A
/-- `S2R`. -/
def rowS2R : MicroRow := .read Device.MR Device.CTRL_RD Device.PROBE_A 2 false
/-- `S3W`. -/
def rowS3W : MicroRow := .write Device.MR Device.CTRL_WR Device.PROBE_B
/-- `S3R`. -/
def rowS3R : MicroRow := .read Device.MR Device.CTRL_RD Device.PROBE_B 3 false
/-- `S4W`. -/
def rowS4W : MicroRow := .write Device.MR Device.CTRL_WR Device.PROBE_C
/-- `S4R`. -/
def rowS4R : MicroRow := .read Device.MR Device.CTRL_RD Device.PROBE_C 4 false
/-- `S5R`. -/
def rowS5R : MicroRow := .read Device.VERSIONR Device.CTRL_RD Device.VERSION_EXPECT 5 true

/-- The micro-step table by `upc` (30_encoding.md R93). The terminal states and 12 to 15 have no row. -/
def microRow (k : Upc) : Option MicroRow :=
  match k.toNat with
  | 0 => some rowS1W
  | 1 => some rowS1WAIT
  | 2 => some rowS1R
  | 3 => some rowS2W
  | 4 => some rowS2R
  | 5 => some rowS3W
  | 6 => some rowS3R
  | 7 => some rowS4W
  | 8 => some rowS4R
  | 9 => some rowS5R
  | _ => none

/-- The payload of a micro-step's frame that is sent: the data of a write, a constant (30_encoding.md R93; log 12). -/
def microData (k : Upc) : List Byte :=
  match microRow k with
  | some (.write _ _ data) => [data]
  | some .wait => []
  | some (.read _ _ _ _ _) => []
  | none => []

end Sys2Proof.Machine
end

