-- ==== Sys2Proof/Config.lean ====
section
/-! DEFINITION. The build parameters the spec leaves open (00_scope.md R6, 93_implementation_defined.md part 3) and the
free values of the model: constants without a body, of which nothing can be proved but what their types say. -/

namespace Sys2Proof

/-- The parameters of one build of the block. Each is stored so that the spec's bounds hold of every value:
what is stored is the excess over the least value the spec allows. They never change as the block runs (log 5). -/
structure Params where
  /-- MAXLEN less 255; at most 65280 in a conforming build (92_eei_decisions.md D5). -/
  maxLenExtra : Nat
  /-- T_RST_WAIT in nanoseconds less 10 ms (92_eei_decisions.md D14; the unit is log 6). -/
  rstWaitExtraNs : Nat
  /-- F_CLK in hertz less 1 (92_eei_decisions.md D3; the unit is log 6). -/
  fClkPred : Nat
  /-- SCLK_DIV less 1 (92_eei_decisions.md D2). -/
  sclkDivPred : Nat
  /-- TRACE: whether the diagnostic port exists (92_eei_decisions.md D13). -/
  traceBuilt : Bool
  deriving DecidableEq, Repr

/-- MAXLEN, the largest payload length a command may carry (00_scope.md R6). -/
def Params.maxLen (p : Params) : Nat := 255 + p.maxLenExtra

/-- T_RST_WAIT in nanoseconds, at least 10 ms (00_scope.md R6). -/
def Params.rstWaitNs (p : Params) : Nat := 10000000 + p.rstWaitExtraNs

/-- F_CLK in hertz (00_scope.md R6). -/
def Params.fClk (p : Params) : Nat := p.fClkPred + 1

/-- SCLK_DIV, `clk` cycles in half an `sclk` period (00_scope.md R6). -/
def Params.sclkDiv (p : Params) : Nat := p.sclkDivPred + 1

/-- WAIT_CYCLES = ceil(T_RST_WAIT * F_CLK) (00_scope.md R6, 60_exceptions.md R211). -/
def Params.waitCycles (p : Params) : Nat := (p.rstWaitNs * p.fClk + 999999999) / 1000000000

/-- The bound MAXLEN <= 65535 of 00_scope.md R6; the other bounds hold by construction. -/
abbrev Params.Conforming (p : Params) : Prop := p.maxLenExtra ≤ 65280

namespace Config

/-- MAXLEN less 255 of the build at hand (00_scope.md R6). -/
opaque maxLenExtra : Fin 65281

/-- T_RST_WAIT less 10 ms of the build at hand (00_scope.md R6). -/
opaque rstWaitExtraNs : Nat

/-- F_CLK less 1 Hz of the build at hand (00_scope.md R6). -/
opaque fClkPred : Nat

/-- SCLK_DIV less 1 of the build at hand (00_scope.md R6). -/
opaque sclkDivPred : Nat

/-- TRACE of the build at hand (00_scope.md R6). -/
opaque traceBuilt : Bool

/-- The byte the device drives in a byte slot of an exchange: exchange number, slot number (20_memory.md R68, R70;
93_implementation_defined.md U2, U3, U6). -/
opaque freeMiso : Nat → Nat → Byte

/-- The byte slot of an exchange in which `chan_fail` rises, if it does (20_memory.md R69; 93_implementation_defined.md
U7). -/
opaque freeFailSlot : Nat → Option Nat

/-- The first byte slot that is no longer sent once `chan_fail` has been seen (40_transport.md R118: how many bytes go
out before the stop is unspecified). -/
opaque freeStopSlot : Nat → Nat

/-- The build at hand. -/
def params : Params :=
  ⟨maxLenExtra.val, rstWaitExtraNs, fClkPred, sclkDivPred, traceBuilt⟩

end Config

end Sys2Proof
end

