-- ==== Sys2Proof/Machine/State.lean ====
section
/-! DEFINITION. The state of the framer block (spec/10_state.md), its inputs and what an observer outside has seen, all
plain data; the state after reset; the reasons a step can stop. -/

namespace Sys2Proof.Machine

open Sys2Proof

/-- Engine state (10_state.md R26). -/
inductive Fsm where
  | idle | load | xfer | wait | resp
  deriving DecidableEq, Repr

/-- Response status; code 3 is never produced (30_encoding.md R92, 60_exceptions.md R201). -/
inductive Status where
  | ok | busFailure | illegalCmd
  deriving DecidableEq, Repr

/-- Direction of a transfer event (30_encoding.md R97). -/
inductive Dir where
  | r | w
  deriving DecidableEq, Repr

/-- The events of the diagnostic port (30_encoding.md R97). -/
inductive DiagEvent where
  | xfer (dir : Dir) (addr : Half) (ctrl : Byte) (bytes : List Byte) (ok : Bool)
  | mismatch (step : Nat) (expected got : Byte) (fatal : Bool)
  | busfail (upc : Upc)
  deriving DecidableEq, Repr

/-- A response record without its data (30_encoding.md R92). -/
structure Response where
  status : Status
  present : Bool
  len : Half
  deriving DecidableEq, Repr

/-- What has happened on the bus (00_scope.md R8): an exchange with the bytes that left on `mosi` and whether it
succeeded, the reset wait with its `clk` cycles (41_bringup.md R142), a frame cut short by `rst`, with its whole bytes
and the bits of the byte that was going out (70_reset_and_hazards.md R231). -/
inductive BusEvent where
  | exchange (sent : List Byte) (ok : Bool)
  | wait (cycles : Nat)
  | truncated (sent : List Byte) (bits : List Bool)
  deriving DecidableEq, Repr

/-- The answer of the outside to one exchange (20_memory.md R68, R69; log 3): the bytes the device drives, slot by slot
(a slot past the end of the list is a free value), the byte slot in which `chan_fail` is 1 (one past the end of the
frame comes when chip-select is high again, and colours nothing), and where the engine stops once it has seen it. -/
structure Answer where
  miso : List Byte
  failSlot : Option Nat
  stopSlot : Nat
  deriving DecidableEq, Repr

/-- The levels of the input pins the host drives (10_state.md section 9). `cmdValid` and `wdataValid` gate the
descriptors and bytes the host has lined up (log 14). `rst` is the level at the beginning of a step; `rstDuring` says that
`rst` rises in the course of it, after so many `sclk` pulses of its exchange or `clk` cycles of its wait (log 15). -/
structure Pins where
  rst : Bool
  rstDuring : Option Nat
  cmdValid : Bool
  wdataValid : Bool
  respReady : Bool
  rdataReady : Bool
  traceEn : Bool
  deriving DecidableEq, Repr

/-- The byte channel: chip-select, the pins `sclk` and `mosi`, the shift register and its bit counter (10_state.md R30,
R31; 30_encoding.md R86; how they move is log 23 and log 26), and the number of `sclk` pulses so far (log 18). -/
structure Channel where
  cs : Bool
  sclk : Bool
  mosi : Bool
  shift : Byte
  bitCnt : BitVec 3
  pulses : Nat
  deriving DecidableEq, Repr

/-- The whole state. INVENTORY.md lists each field with its rule. -/
structure State where
  /-- The build parameters; no step writes them (00_scope.md R6). -/
  cfg : Params
  /-- The present levels of the input pins. -/
  pins : Pins
  /-- The levels of the coming steps; when it is empty the levels stay (log 14). -/
  pinScript : List Pins
  /-- The descriptors the host has still to present on `cmd_desc`. -/
  cmdIn : List Descriptor
  /-- The bytes the host has still to present on `wdata`. -/
  wdataIn : List Byte
  /-- The answers to the coming exchanges; when it is empty they are free values (log 3). -/
  answers : List Answer
  /-- How many exchanges have begun and ended: the argument of the free values (log 3). -/
  exchNo : Nat
  /-- R26. -/
  fsm : Fsm
  /-- R26, R28. -/
  seqActive : Bool
  /-- R28. -/
  busy : Bool
  /-- R21. -/
  opQ : Byte
  /-- R21. -/
  addrQ : Half
  /-- R21. -/
  ctrlQ : Byte
  /-- R21. -/
  lenQ : Half
  /-- The copy of `trace_en` sampled at acceptance (R29). -/
  traceQ : Bool
  /-- R22: the bytes of a WRITE command's data collected so far. -/
  wbuf : List Byte
  /-- R23: the bytes stored so far; empty when it holds no value. -/
  rbuf : List Byte
  /-- R24. -/
  idx : BitVec 17
  /-- R25. -/
  upc : Upc
  /-- R27. -/
  waitCnt : Nat
  /-- `chan_fail` has been seen in the present bracket (40_transport.md R118; log 24). -/
  failSeen : Bool
  /-- R30, R31. -/
  ch : Channel
  /-- R28. -/
  respValid : Bool
  /-- R28. -/
  respStatus : Status
  /-- R28. -/
  respPresent : Bool
  /-- 30_encoding.md R92. -/
  respLen : Half
  /-- Read-data bytes handed over so far (30_encoding.md R92; log 24). -/
  rdIdx : Nat
  /-- The event on the diagnostic port; `diag_valid` is 1 when there is one (60_exceptions.md R212; log 13). -/
  diagPort : Option DiagEvent
  /-- The bytes that have left on `mosi` in the present bracket (log 18). -/
  sent : List Byte
  /-- What has happened on the bus, oldest first (log 18). -/
  bus : List BusEvent
  /-- The response records taken by the host, oldest first (log 18). -/
  responses : List Response
  /-- The bytes delivered on the read-data port, oldest first (log 18). -/
  rdataOut : List Byte
  /-- The diagnostic events, oldest first (log 18). -/
  diagLog : List DiagEvent
  deriving DecidableEq, Repr

/-- Why the machine stops. -/
inductive Fault where
  /-- Raised by step alone, never by an instruction: a BRINGUP is running and `upc` holds 12 to 15, values the spec
  says are never taken (10_state.md R25). Safe: no run of the block reaches such a state (log 17). -/
  | upcNeverTaken
  deriving DecidableEq, Repr

/-- Why an instruction is refused. -/
inductive Refusal where
  /-- Raised by exec for an instruction that has no meaning yet; no arm does. Safe. -/
  | notModelled (mnemonic : String)
  deriving DecidableEq, Repr

/-- The levels of a host that is ready to give and take at once, without trace and without reset (log 14). -/
def Pins.quiet : Pins := ⟨false, none, true, true, true, true, false⟩

/-- The byte channel after reset (10_state.md R35; shift register and bit counter are log 2). -/
def Channel.reset : Channel := ⟨false, false, false, 0x00#8, 0#3, 0⟩

/-- The block right after reset (10_state.md R35, 70_reset_and_hazards.md R230), with nothing presented to it. The
fields R35 leaves unspecified are zero or empty: DESIGN CHOICE, unsafe (log 2). -/
def State.reset : State where
  cfg := Config.params
  pins := Pins.quiet
  pinScript := []
  cmdIn := []
  wdataIn := []
  answers := []
  exchNo := 0
  fsm := .idle
  seqActive := false
  busy := false
  opQ := 0x00#8
  addrQ := 0x0000#16
  ctrlQ := 0x00#8
  lenQ := 0x0000#16
  traceQ := false
  wbuf := []
  rbuf := []
  idx := 0#17
  upc := 0#4
  waitCnt := 0
  failSeen := false
  ch := Channel.reset
  respValid := false
  respStatus := .ok
  respPresent := false
  respLen := 0x0000#16
  rdIdx := 0
  diagPort := none
  sent := []
  bus := []
  responses := []
  rdataOut := []
  diagLog := []

end Sys2Proof.Machine
end

