-- ==== Sys2Proof/Machine/Operands.lean ====
section
/-! DEFINITION. Operands of the transport: the wire frame (spec/30_encoding.md R80 to R84), the operand latches and the
write buffer (spec/10_state.md R21, R22), the length check (spec/30_encoding.md R90), and the collection of WRITE data
(spec/10_state.md R26 LOAD). -/

namespace Sys2Proof.Machine

open Sys2Proof

/-- `addr[15:8]` (30_encoding.md R81). -/
def addrHigh (addr : Half) : Byte := addr.extractLsb' 8 8

/-- `addr[7:0]` (30_encoding.md R81). -/
def addrLow (addr : Half) : Byte := addr.extractLsb' 0 8

/-- The header of a frame: address high byte, address low byte, control byte (30_encoding.md R81). -/
def header (addr : Half) (ctrl : Byte) : List Byte := [addrHigh addr, addrLow addr, ctrl]

/-- The transmit frame of a READ: the payload is zero-filled (30_encoding.md R82). -/
def readFrame (addr : Half) (ctrl : Byte) (len : Nat) : List Byte :=
  header addr ctrl ++ List.replicate len 0x00#8

/-- The transmit frame of a WRITE: the data verbatim (30_encoding.md R83). -/
def writeFrame (addr : Half) (ctrl : Byte) (data : List Byte) : List Byte :=
  header addr ctrl ++ data

/-- The length of the frame of the latched command, a natural number without wrap (30_encoding.md R84). -/
def State.frameLen (s : State) : Nat := 3 + s.lenQ.toNat

/-- The data of the write in progress: the constant of the micro-step while the sequencer is at work, what a WRITE command
has collected in `wbuf` otherwise (10_state.md R22, 30_encoding.md R93; log 12). -/
def State.payload (s : State) : List Byte := if s.seqActive then microData s.upc else s.wbuf

/-- The byte to send in byte slot `i`, from the latches and the data (40_transport.md R118). -/
def State.txByte (s : State) (i : Nat) : Byte :=
  if i = 0 then addrHigh s.addrQ
  else if i = 1 then addrLow s.addrQ
  else if i = 2 then s.ctrlQ
  else if s.opQ = Device.OP_WRITE then s.payload.getD (i - 3) 0x00#8
  else 0x00#8

/-- A length the block accepts (30_encoding.md R90). -/
def State.lenOk (s : State) (len : Half) : Bool := decide (len.toNat ≤ s.cfg.maxLen)

/-- Acceptance of a legal command: `busy` rises, `trace_en` is sampled, and the command in progress is no BRINGUP unless
its first micro-step says so (10_state.md R26, R28, R29). -/
def State.accept (s : State) : State := { s with busy := true, traceQ := s.pins.traceEn, seqActive := false }

/-- Loading the operand latches (10_state.md R21). -/
def State.latch (op : Byte) (addr : Half) (ctrl : Byte) (len : Half) (s : State) : State :=
  { s with opQ := op, addrQ := addr, ctrlQ := ctrl, lenQ := len }

/-- Entering LOAD with an empty write buffer (10_state.md R26, 40_transport.md R118). -/
def State.enterLoad (s : State) : State := { s with fsm := .load, wbuf := [] }

/-- The bytes the host has on offer on the write-data port. -/
def State.wdataOffered (s : State) : List Byte := if s.pins.wdataValid then s.wdataIn else []

/-- How many data bytes of the WRITE are still to be taken. -/
def State.wdataMissing (s : State) : Nat := s.lenQ.toNat - s.wbuf.length

/-- LOAD takes data bytes, byte 0 first, as far as the host offers them and the command wants them (40_transport.md
R118; log 19). -/
def State.collect (s : State) : State :=
  { s with
    wbuf := s.wbuf ++ s.wdataOffered.take s.wdataMissing
    wdataIn := s.wdataIn.drop (min s.wdataOffered.length s.wdataMissing) }

/-- All `len_q` data bytes have been taken. -/
def State.loaded (s : State) : Bool := decide (s.lenQ.toNat ≤ s.wbuf.length)

end Sys2Proof.Machine
end

