-- ==== Sys2Proof/Machine/Channel.lean ====
section
/-! DEFINITION. The byte channel (the SPI master): one bit, one byte slot, one exchange (spec/30_encoding.md R86,
spec/40_transport.md R118, spec/20_memory.md R68, R69). An exchange is one indivisible action of the model
(spec/00_scope.md R7); it is computed by running the engine byte slot by byte slot and bit by bit. -/

namespace Sys2Proof.Machine

open Sys2Proof

/-! ### Bits -/

/-- The bits of a byte in the order they pass the wire, bit 7 first (30_encoding.md R86). -/
def bitsOf (b : Byte) : List Bool :=
  [b.getLsbD 7, b.getLsbD 6, b.getLsbD 5, b.getLsbD 4, b.getLsbD 3, b.getLsbD 2, b.getLsbD 1, b.getLsbD 0]

/-- A register that takes one more bit at its low end. -/
def shiftIn (r : Byte) (b : Bool) : Byte := r.extractLsb' 0 7 ++ BitVec.ofBool b

/-- The byte a receiver assembles from the bits it samples, first sampled bit = bit 7 (30_encoding.md R86). -/
def byteOf (bits : List Bool) : Byte := bits.foldl shiftIn 0x00#8

/-- The start of a byte slot: the shift register is loaded (log 23) and the bit counter is at 0. DESIGN CHOICE (log 26): the
spec gives the bit counter its width alone (10_state.md R31) and not how it counts. -/
def Channel.load (t : Byte) (ch : Channel) : Channel := { ch with shift := t, bitCnt := 0#3 }

/-- `sclk` is low and the next bit stands on `mosi`. -/
def Channel.drive (ch : Channel) : Channel := { ch with sclk := false, mosi := ch.shift.msb }

/-- The rising edge of `sclk`: the device samples `mosi`, the block samples `miso` (SPI mode 0). -/
def Channel.rise (miso : Bool) (ch : Channel) : Channel :=
  { ch with sclk := true, shift := shiftIn ch.shift miso, pulses := ch.pulses + 1 }

/-- The falling edge of `sclk`. DESIGN CHOICE (log 26): the bit counter counts the bits of the byte slot that are over, up by
one at each falling edge and back to 0 after the eighth. -/
def Channel.fall (ch : Channel) : Channel := { ch with sclk := false, bitCnt := ch.bitCnt + 1#3 }

/-- One `sclk` pulse for each bit on `miso`: the bits the device samples, and the channel afterwards. -/
def Channel.shiftBits : List Bool → Channel → List Bool × Channel
  | [], ch => ([], ch)
  | m :: ms, ch => (ch.drive.mosi :: (shiftBits ms (ch.drive.rise m).fall).1, (shiftBits ms (ch.drive.rise m).fall).2)

/-- One byte slot: `t` goes out while `r` comes in; the byte the device has sampled, and the channel afterwards, whose
shift register holds the byte received (30_encoding.md R86). -/
def Channel.shiftByte (t r : Byte) (ch : Channel) : Byte × Channel :=
  (byteOf ((ch.load t).shiftBits (bitsOf r)).1, ((ch.load t).shiftBits (bitsOf r)).2)

/-! ### The outside -/

/-- The answer nobody has scripted: free values (log 3). -/
def freeAnswer (n : Nat) : Answer := ⟨[], Config.freeFailSlot n, Config.freeStopSlot n⟩

/-- The answer to the exchange that is `j` exchanges ahead. -/
def State.answerAt (s : State) (j : Nat) : Answer := s.answers.getD j (freeAnswer (s.exchNo + j))

/-- The byte the device drives in byte slot `i` of the exchange that is `j` exchanges ahead (20_memory.md R68, R70). -/
def State.misoAt (s : State) (j i : Nat) : Byte :=
  (s.answerAt j).miso.getD i (Config.freeMiso (s.exchNo + j) i)

/-- `chan_fail` is 1 within the first `n` byte slots of the exchange that is `j` exchanges ahead: an exchange of `n`
bytes ends with `Fail` (20_memory.md R69). -/
def State.failsAt (s : State) (j n : Nat) : Bool := (s.answerAt j).failSlot.any (fun f => decide (f < n))

/-! ### The exchange -/

/-- An exchange begins: chip-select is asserted, no byte has gone out (40_transport.md R118). -/
def State.beginExchange (s : State) : State :=
  { s with
    fsm := .xfer, ch := { s.ch with cs := true }, idx := 0#17, failSeen := false, sent := [], rbuf := [] }

/-- `chan_fail` is looked at in the byte slot about to run (20_memory.md R69). -/
def State.sampleFail (s : State) : State :=
  { s with failSeen := s.failSeen || (s.answerAt 0).failSlot == some s.idx.toNat }

/-- The engine stops shifting before the next byte: only once `chan_fail` has been seen (40_transport.md R118). -/
def State.stopsEarly (s : State) : Bool := s.failSeen && decide ((s.answerAt 0).stopSlot ≤ s.idx.toNat)

/-- One byte slot of an exchange (40_transport.md R118). -/
def State.byteSlot (s : State) : State :=
  { s with
    ch := (s.ch.shiftByte (s.txByte s.idx.toNat) (s.misoAt 0 s.idx.toNat)).2
    sent := s.sent ++ [(s.ch.shiftByte (s.txByte s.idx.toNat) (s.misoAt 0 s.idx.toNat)).1]
    rbuf :=
      if s.opQ = Device.OP_READ ∧ 3 ≤ s.idx.toNat then
        s.rbuf ++ [(s.ch.shiftByte (s.txByte s.idx.toNat) (s.misoAt 0 s.idx.toNat)).2.shift]
      else s.rbuf
    idx := s.idx + 1#17 }

/-- `n` byte slots, fewer when the engine stops early. -/
def State.transfer : Nat → State → State
  | 0, s => s
  | n + 1, s => if s.sampleFail.stopsEarly then s.sampleFail else transfer n s.sampleFail.byteSlot

/-- The exchange ends: chip-select is deasserted, the answer is used up, and after `Fail` the read buffer holds no value
(40_transport.md R118, 10_state.md R23, R30; log 25). -/
def State.closeExchange (s : State) : State :=
  { s with
    ch := { s.ch with cs := false }
    rbuf := if s.failSeen then [] else s.rbuf
    bus := s.bus ++ [.exchange s.sent (!s.failSeen)]
    answers := s.answers.tail
    exchNo := s.exchNo + 1 }

/-- The rest of the exchange in progress. -/
def State.finishExchange (s : State) : State := (s.transfer (s.frameLen - s.idx.toNat)).closeExchange

/-- `Exchange(tx)` of the latched command: exactly one, with chip-select asserted throughout (20_memory.md R68). Its
outcome is left in `failSeen`, the bytes received from offset 3 on, for a READ, in `rbuf`. -/
def State.exchange (s : State) : State := s.beginExchange.finishExchange

end Sys2Proof.Machine
end

