-- ==== Sys2Proof/Machine/Flags.lean ====
section
/-! DEFINITION. Status bits, response registers and output pins (spec/10_state.md R28, R30 and section 9;
spec/30_encoding.md R92; spec/60_exceptions.md R201). The block has no condition codes. -/

namespace Sys2Proof.Machine

open Sys2Proof

/-- The code of a status on `resp_status` (60_exceptions.md R201). -/
def Status.code : Status → BitVec 2
  | .ok => 0#2
  | .busFailure => 1#2
  | .illegalCmd => 2#2

/-- `cmd_ready` (10_state.md section 9). -/
def State.cmdReady (s : State) : Bool := s.fsm == .idle

/-- `wdata_ready` (10_state.md section 9). -/
def State.wdataReady (s : State) : Bool := s.fsm == .load

/-- `rdata_valid`: the response has been taken and read data is still to be delivered (10_state.md section 9; log 10). -/
def State.rdataValid (s : State) : Bool := s.fsm == .resp && !s.respValid

/-- `rdata`, when it is valid. -/
def State.rdata (s : State) : Option Byte := s.rbuf[s.rdIdx]?

/-- Pin `cs_n`, active low (10_state.md R30). -/
def State.csN (s : State) : Bool := !s.ch.cs

/-- `diag_valid` (10_state.md section 9). -/
def State.diagValid (s : State) : Bool := s.diagPort.isSome

/-- The response registers as a record. -/
def State.response (s : State) : Response := ⟨s.respStatus, s.respPresent, s.respLen⟩

/-- Entering RESP: the response registers are written and `resp_valid` rises (10_state.md R28, 30_encoding.md R92). -/
def State.respond (status : Status) (present : Bool) (len : Half) (s : State) : State :=
  { s with
    fsm := .resp, respValid := true, respStatus := status, respPresent := present, respLen := len, rdIdx := 0 }

/-- The command is over: `busy` falls (10_state.md R28). -/
def State.goIdle (s : State) : State := { s with fsm := .idle, busy := false }

end Sys2Proof.Machine
end

