-- ==== Sys2Proof/Machine/Ops.lean ====
section
/-! DEFINITION. The operations the meanings share: diagnostic events, reset, the refusal of a command and the bus failure (what
this block has in the place of exceptions, spec/60_exceptions.md), the end of a READ or WRITE, the steps of the bring-up
sequencer, the delivery of a response (the return). -/

namespace Sys2Proof.Machine

open Sys2Proof

/-! ### Diagnostic port -/

/-- `Diag(e)`: the event appears on the diagnostic port, if the build has one, and nothing else changes (60_exceptions.md
R212; log 13). -/
def State.emit (e : DiagEvent) (s : State) : State :=
  if s.cfg.traceBuilt then { s with diagPort := some e, diagLog := s.diagLog ++ [e] } else s

/-- An event nobody has taken is lost (60_exceptions.md R212). -/
def State.clearDiag (s : State) : State := { s with diagPort := none }

/-- The `XFER` event of the exchange that has just ended (30_encoding.md R97). -/
def State.xferEvent (s : State) : DiagEvent :=
  if s.opQ = Device.OP_READ then .xfer .r s.addrQ s.ctrlQ s.rbuf (!s.failSeen)
  else .xfer .w s.addrQ s.ctrlQ s.payload (!s.failSeen)

/-- One `XFER` event a call, after the exchange, if `trace_en` was 1 at acceptance (40_transport.md R114). -/
def State.emitXfer (s : State) : State := if s.traceQ then s.emit s.xferEvent else s

/-! ### Reset -/

/-- `rst` = 1: the block takes its reset state and a command in progress is abandoned without a response; a frame in
mid-air is cut short, after these bits of the byte that was going out (70_reset_and_hazards.md R230, R231; log 15). What
lies outside the block stays. -/
def State.resetCutting (bits : List Bool) (s : State) : State :=
  { State.reset with
    cfg := s.cfg
    pins := s.pins
    pinScript := s.pinScript
    cmdIn := s.cmdIn
    wdataIn := s.wdataIn
    answers := if s.ch.cs then s.answers.tail else s.answers
    exchNo := if s.ch.cs then s.exchNo + 1 else s.exchNo
    ch := { Channel.reset with pulses := s.ch.pulses }
    bus := if s.ch.cs then s.bus ++ [.truncated s.sent bits] else s.bus
    responses := s.responses
    rdataOut := s.rdataOut
    diagLog := s.diagLog }

/-- `rst` = 1 between two bytes, or with no frame in mid-air. -/
def State.doReset (s : State) : State := s.resetCutting []

/-! ### An exchange that `rst` may cut short -/

/-- The exchange in progress, `n` more `sclk` pulses on: the whole byte slots among them have run. -/
def State.afterPulses (n : Nat) (s : State) : State := (s.transfer (n / 8)).sampleFail

/-- The first `m` bits of the byte slot about to run: the bits sent, and the channel afterwards. -/
def State.partSlot (m : Nat) (s : State) : List Bool × Channel :=
  (s.ch.load (s.txByte s.idx.toNat)).shiftBits ((bitsOf (s.misoAt 0 s.idx.toNat)).take m)

/-- `rst` rises after `n` more `sclk` pulses of the exchange in progress (70_reset_and_hazards.md R231). -/
def State.cutExchange (n : Nat) (s : State) : State :=
  ({ s.afterPulses n with ch := ((s.afterPulses n).partSlot (n % 8)).2 } : State).resetCutting
    ((s.afterPulses n).partSlot (n % 8)).1

/-- The rest of the exchange in progress and what comes after it; or, if `rst` rises before the exchange is over, the
cut and the reset (70_reset_and_hazards.md R231; log 15). -/
def State.runExchange (settle : State → State) (s : State) : State :=
  match s.pins.rstDuring with
  | some n =>
    if n < 8 * (s.frameLen - s.idx.toNat) ∧ (s.afterPulses n).stopsEarly = false then s.cutExchange n
    else settle s.finishExchange
  | none => settle s.finishExchange

/-- The exchange of the latched command and what comes after it, unless `rst` cuts it short. -/
def State.perform (settle : State → State) (s : State) : State := s.beginExchange.runExchange settle

/-! ### Errors -/

/-- `BusFailure` of a READ or WRITE: the response `{BUS_FAILURE, 0, 0}`, no bytes, nothing saved (60_exceptions.md
R206). -/
def State.raiseBusFailure (s : State) : State := s.respond .busFailure false 0x0000#16

/-- `ILLEGAL_CMD`: the response `{ILLEGAL_CMD, 0, 0}` and no exchange, no latch written, no data taken, no event
(30_encoding.md R89, R90; log 11). -/
def State.refuseCommand (s : State) : State :=
  ({ s with busy := true } : State).respond .illegalCmd false 0x0000#16

/-! ### READ and WRITE -/

/-- The end of a single READ or WRITE, once its exchange is over (40_transport.md R110, R111). -/
def State.settleSingle (s : State) : State :=
  if s.failSeen then s.emitXfer.raiseBusFailure
  else if s.opQ = Device.OP_READ then s.emitXfer.respond .ok false s.lenQ
  else s.emitXfer.respond .ok false 0x0000#16

/-- `Read(addr, ctrl, len)` for the host (40_transport.md R110). -/
def State.transportRead (addr : Half) (ctrl : Byte) (len : Half) (s : State) : State :=
  if s.lenOk len then (s.accept.latch Device.OP_READ addr ctrl len).perform State.settleSingle else s.refuseCommand

/-- LOAD goes on: once all data bytes are there the exchange is performed, until then the block waits (10_state.md R26,
40_transport.md R113). -/
def State.continueLoad (s : State) : State :=
  if s.collect.loaded then s.collect.perform State.settleSingle else s.collect

/-- `Write(addr, ctrl, data)` for the host, `len` data bytes coming from the write-data port (40_transport.md R111). -/
def State.transportWrite (addr : Half) (ctrl : Byte) (len : Half) (s : State) : State :=
  if s.lenOk len then (s.accept.latch Device.OP_WRITE addr ctrl len).enterLoad.continueLoad else s.refuseCommand

/-! ### The sequencer -/

/-- The terminal action `Present` up to its `Respond`: `upc <- 10` and the response stands ready in RESP (41_bringup.md R140,
R151; 10_state.md R26). The rest of it, `seq_active <- 0 ; Respond`, is State.takeResponse, once the host is ready (log 9). -/
def State.finishPresent (s : State) : State :=
  ({ s with upc := 10#4 } : State).respond .ok true 0x0000#16

/-- The terminal action `Absent` up to its `Respond`, likewise: `upc <- 11` (41_bringup.md R140, R152; log 9). -/
def State.finishAbsent (s : State) : State :=
  ({ s with upc := 11#4 } : State).respond .ok false 0x0000#16

/-- Micro-step `k` of a BRINGUP is the one in progress (10_state.md R25, R26, R28). -/
def State.atMicroStep (k : Upc) (s : State) : State := { s with upc := k, seqActive := true }

/-- The operands of a micro-step's transport call are loaded (10_state.md R21). -/
def State.loadRow (row : MicroRow) (s : State) : State :=
  match row with
  | .write addr ctrl _ => s.latch Device.OP_WRITE addr ctrl 1#16
  | .read addr ctrl _ _ _ => s.latch Device.OP_READ addr ctrl 1#16
  | .wait => s

/-- WAIT begins: the wait counter is loaded (10_state.md R27). -/
def State.enterWait (s : State) : State :=
  { s with fsm := .wait, ch := { s.ch with cs := false }, waitCnt := s.cfg.waitCycles }

/-- Micro-step `k` begins: its exchange with its operands loaded, or the wait (10_state.md R25, R26; log 8). -/
def State.enterMicroStep (k : Upc) (s : State) : State :=
  match microRow k with
  | some .wait => (s.atMicroStep k).enterWait
  | some row => ((s.atMicroStep k).loadRow row).beginExchange
  | none => s.atMicroStep k

/-- Micro-step `k` has succeeded: `upc` goes up by one, or after the last step to `Present` (10_state.md R25,
41_bringup.md R155). -/
def State.advance (k : Upc) (s : State) : State :=
  if k = 9#4 then s.finishPresent else s.enterMicroStep (k + 1#4)

/-- The byte a one-byte read has returned, `rx[3]`; it is still in the shift register (10_state.md R23, R31). -/
def State.readByte (s : State) : Byte := s.rbuf.getD 0 s.ch.shift

/-- The byte returned is compared, on all eight bits (41_bringup.md R143, R145, R157, R158). -/
def State.compareByte (k : Upc) (expected : Byte) (step : Nat) (fatal : Bool) (s : State) : State :=
  if s.readByte = expected then s.advance k
  else if fatal then (s.emit (.mismatch step expected s.readByte fatal)).finishAbsent
  else (s.emit (.mismatch step expected s.readByte fatal)).advance k

/-- A bus failure aborts the sequence at once (41_bringup.md R153). -/
def State.abortOnBusFailure (k : Upc) (s : State) : State := (s.emit (.busfail k)).finishAbsent

/-- What the sequencer does after the exchange of micro-step `k`: the failure comes before the comparison
(60_exceptions.md R205), the `XFER` event before both (41_bringup.md R157). -/
def State.settleMicro (k : Upc) (row : MicroRow) (s : State) : State :=
  match row with
  | .write _ _ _ => if s.failSeen then s.emitXfer.abortOnBusFailure k else s.emitXfer.advance k
  | .read _ _ expected step fatal =>
    if s.failSeen then s.emitXfer.abortOnBusFailure k else s.emitXfer.compareByte k expected step fatal
  | .wait => s.advance k

/-- One `clk` cycle of the wait (10_state.md R27). -/
def State.waitTick (s : State) : State := { s with waitCnt := s.waitCnt - 1 }

/-- `n` `clk` cycles of the wait. -/
def State.waitTicks : Nat → State → State
  | 0, s => s
  | n + 1, s => waitTicks n s.waitTick

/-- The whole reset wait, one step of the model: the counter runs from WAIT_CYCLES to 0 (41_bringup.md R142; log 22). -/
def State.runWait (s : State) : State :=
  { s.enterWait.waitTicks s.cfg.waitCycles with bus := s.bus ++ [.wait s.cfg.waitCycles] }

/-- The reset wait and what comes after it; or, if `rst` rises before it is over, the reset
(70_reset_and_hazards.md R231; log 15). -/
def State.passWait (settle : State → State) (s : State) : State :=
  match s.pins.rstDuring with
  | some n => if n < s.cfg.waitCycles then (s.enterWait.waitTicks n).doReset else settle s.runWait
  | none => settle s.runWait

/-- Micro-step `k` from its beginning to its end (41_bringup.md section 2). -/
def State.runMicroStep (k : Upc) (row : MicroRow) (s : State) : State :=
  match row with
  | .wait => (s.atMicroStep k).passWait (State.settleMicro k row)
  | row => ((s.atMicroStep k).loadRow row).perform (State.settleMicro k row)

/-- Acceptance of a BRINGUP: the sequence starts at micro-step 0 (41_bringup.md R140, R155). -/
def State.startBringup (s : State) : State :=
  s.accept.enterMicroStep 0#4

/-- An exchange in progress runs to its end and is settled (40_transport.md R118 "leave XFER"; log 7). -/
def State.resume (s : State) : State :=
  match (if s.seqActive then microRow s.upc else none) with
  | some row => s.runExchange (State.settleMicro s.upc row)
  | none => s.runExchange State.settleSingle

/-! ### The response ports -/

/-- `Respond(r)`: the response record is handed to the host and the block returns to idle (00_scope.md section 5, R9;
30_encoding.md R92), after a READ once its data has followed (log 10). -/
def State.handOver (s : State) : State :=
  if s.respLen = 0x0000#16 then
    ({ s with respValid := false, responses := s.responses ++ [s.response] } : State).goIdle
  else { s with respValid := false, responses := s.responses ++ [s.response] }

/-- The host takes the response record: `seq_active <- 0 ; Respond(r)`, the end of the terminal actions of 41_bringup.md
R140, and so `seq_active` falls by the delivery of the response (10_state.md R28; log 9). Without a sequence it is 0
already. -/
def State.takeResponse (s : State) : State := ({ s with seqActive := false } : State).handOver

/-- The host takes one byte of read data, byte 0 first; after the last one the command is over (30_encoding.md R92;
log 10). -/
def State.takeByte (s : State) : State :=
  match s.rdata with
  | some b =>
    if s.rdIdx + 1 < s.respLen.toNat then { s with rdataOut := s.rdataOut ++ [b], rdIdx := s.rdIdx + 1 }
    else ({ s with rdataOut := s.rdataOut ++ [b], rdIdx := s.rdIdx + 1 } : State).goIdle
  | none => s.goIdle

/-- RESP: the response, then the read data, each when the host is ready for it (10_state.md section 9). -/
def State.deliver (s : State) : State :=
  if s.respValid then (if s.pins.respReady then s.takeResponse else s)
  else if s.pins.rdataReady then s.takeByte
  else s

end Sys2Proof.Machine
end

