-- ==== Sys2Proof/Machine/Bringup.lean ====
section
/-! DEFINITION. The meanings of BRINGUP, its ten micro-steps and its two terminal states (spec/41_bringup.md). -/

namespace Sys2Proof.Machine

open Sys2Proof

/-- `BRINGUP`: the sequence is accepted and its first micro-step begins (41_bringup.md R140). -/
def execBringup (s : State) : Host.Outcome State Fault Refusal := .next s.startBringup

/-- `S1W` (41_bringup.md R141). -/
def execS1w (s : State) : Host.Outcome State Fault Refusal := .next (s.runMicroStep 0#4 rowS1W)

/-- `S1WAIT` (41_bringup.md R142). -/
def execS1wait (s : State) : Host.Outcome State Fault Refusal := .next (s.runMicroStep 1#4 rowS1WAIT)

/-- `S1R` (41_bringup.md R143). -/
def execS1r (s : State) : Host.Outcome State Fault Refusal := .next (s.runMicroStep 2#4 rowS1R)

/-- `S2W` (41_bringup.md R144). -/
def execS2w (s : State) : Host.Outcome State Fault Refusal := .next (s.runMicroStep 3#4 rowS2W)

/-- `S2R` (41_bringup.md R145). -/
def execS2r (s : State) : Host.Outcome State Fault Refusal := .next (s.runMicroStep 4#4 rowS2R)

/-- `S3W` (41_bringup.md R146). -/
def execS3w (s : State) : Host.Outcome State Fault Refusal := .next (s.runMicroStep 5#4 rowS3W)

/-- `S3R` (41_bringup.md R147). -/
def execS3r (s : State) : Host.Outcome State Fault Refusal := .next (s.runMicroStep 6#4 rowS3R)

/-- `S4W` (41_bringup.md R148). -/
def execS4w (s : State) : Host.Outcome State Fault Refusal := .next (s.runMicroStep 7#4 rowS4W)

/-- `S4R` (41_bringup.md R149). -/
def execS4r (s : State) : Host.Outcome State Fault Refusal := .next (s.runMicroStep 8#4 rowS4R)

/-- `S5R` (41_bringup.md R150). -/
def execS5r (s : State) : Host.Outcome State Fault Refusal := .next (s.runMicroStep 9#4 rowS5R)

/-- `Present`, up to the delivery of its response (41_bringup.md R151; log 9, log 20). -/
def execPresent (s : State) : Host.Outcome State Fault Refusal := .next s.finishPresent

/-- `Absent`, up to the delivery of its response (41_bringup.md R152; log 9, log 20). -/
def execAbsent (s : State) : Host.Outcome State Fault Refusal := .next s.finishAbsent

end Sys2Proof.Machine
end

