-- ==== Sys2Proof/Machine/Named.lean ====
section
/-! DEFINITION. The meanings of the seven named accesses (spec/42_named_accesses.md): each is the READ or WRITE it
expands to. -/

namespace Sys2Proof.Machine

open Sys2Proof

/-- `WR_GAR` (42_named_accesses.md R180). -/
def execWrGar (s : State) : Host.Outcome State Fault Refusal :=
  .next (s.transportWrite Device.GAR Device.CTRL_WR 4#16)

/-- `WR_SUBR` (42_named_accesses.md R181). -/
def execWrSubr (s : State) : Host.Outcome State Fault Refusal :=
  .next (s.transportWrite Device.SUBR Device.CTRL_WR 4#16)

/-- `WR_SHAR` (42_named_accesses.md R182). -/
def execWrShar (s : State) : Host.Outcome State Fault Refusal :=
  .next (s.transportWrite Device.SHAR Device.CTRL_WR 6#16)

/-- `WR_SIPR` (42_named_accesses.md R183). -/
def execWrSipr (s : State) : Host.Outcome State Fault Refusal :=
  .next (s.transportWrite Device.SIPR Device.CTRL_WR 4#16)

/-- `RD_MR` (42_named_accesses.md R184). -/
def execRdMr (s : State) : Host.Outcome State Fault Refusal :=
  .next (s.transportRead Device.MR Device.CTRL_RD 1#16)

/-- `WR_MR` (42_named_accesses.md R185). -/
def execWrMr (s : State) : Host.Outcome State Fault Refusal :=
  .next (s.transportWrite Device.MR Device.CTRL_WR 1#16)

/-- `RD_VERSIONR` (42_named_accesses.md R186). -/
def execRdVersionr (s : State) : Host.Outcome State Fault Refusal :=
  .next (s.transportRead Device.VERSIONR Device.CTRL_RD 1#16)

end Sys2Proof.Machine
end

