-- ==== Sys2Proof/Machine/Transport.lean ====
section
/-! DEFINITION. The meanings of READ and WRITE (spec/40_transport.md). -/

namespace Sys2Proof.Machine

open Sys2Proof

/-- `READ addr, ctrl, len` (40_transport.md R110). -/
def execRead (addr : Half) (ctrl : Byte) (len : Half) (s : State) : Host.Outcome State Fault Refusal :=
  .next (s.transportRead addr ctrl len)

/-- `WRITE addr, ctrl, data` (40_transport.md R111). -/
def execWrite (addr : Half) (ctrl : Byte) (len : Half) (s : State) : Host.Outcome State Fault Refusal :=
  .next (s.transportWrite addr ctrl len)

end Sys2Proof.Machine
end

