-- ==== Sys2Proof/Syntax.lean ====
section
/-! DEFINITION. The instructions of the framer block: one constructor per row of spec/opcode_table.json. -/

namespace Sys2Proof

/-- The block's commands, named accesses and micro-steps (30_encoding.md R88, R93, R95; 41_bringup.md R151, R152).
The data of a WRITE is no operand: it comes on the write-data port (30_encoding.md R87). -/
inductive Instr where
  /-- `READ addr, ctrl, len` (40_transport.md R110). -/
  | read (addr : Half) (ctrl : Byte) (len : Half)
  /-- `WRITE addr, ctrl, data` with `len = len(data)` (40_transport.md R111). -/
  | write (addr : Half) (ctrl : Byte) (len : Half)
  /-- `BRINGUP` (41_bringup.md R140); the other descriptor fields are ignored (30_encoding.md R91). -/
  | bringup
  /-- `WR_GAR`, the gateway configuration write (42_named_accesses.md R180). -/
  | wrGar
  /-- `WR_SUBR`, the subnet configuration write (42_named_accesses.md R181). -/
  | wrSubr
  /-- `WR_SHAR`, the MAC configuration write (42_named_accesses.md R182). -/
  | wrShar
  /-- `WR_SIPR`, the IP configuration write (42_named_accesses.md R183). -/
  | wrSipr
  /-- `RD_MR`, read the mode register (42_named_accesses.md R184). -/
  | rdMr
  /-- `WR_MR`, write the mode register (42_named_accesses.md R185). -/
  | wrMr
  /-- `RD_VERSIONR`, read the version register (42_named_accesses.md R186). -/
  | rdVersionr
  /-- Micro-step 0, the soft-reset write (41_bringup.md R141). -/
  | s1w
  /-- Micro-step 1, the reset wait (41_bringup.md R142). -/
  | s1wait
  /-- Micro-step 2, the reset readback (41_bringup.md R143). -/
  | s1r
  /-- Micro-step 3, the write of mode probe A (41_bringup.md R144). -/
  | s2w
  /-- Micro-step 4, the read of mode probe A (41_bringup.md R145). -/
  | s2r
  /-- Micro-step 5, the write of mode probe B (41_bringup.md R146). -/
  | s3w
  /-- Micro-step 6, the read of mode probe B (41_bringup.md R147). -/
  | s3r
  /-- Micro-step 7, the write of mode probe C (41_bringup.md R148). -/
  | s4w
  /-- Micro-step 8, the read of mode probe C (41_bringup.md R149). -/
  | s4r
  /-- Micro-step 9, the identity check (41_bringup.md R150). -/
  | s5r
  /-- Terminal state 10, `Present` (41_bringup.md R151). -/
  | present
  /-- Terminal state 11, `Absent` (41_bringup.md R152). -/
  | absent
  deriving DecidableEq, Repr

end Sys2Proof
end

