-- ==== Sys2Proof/Machine/Dispatch.lean ====
section
/-! DEFINITION. One arm per constructor of Instr: the meaning of each row of spec/opcode_table.json. -/

namespace Sys2Proof.Machine

open Sys2Proof

def exec (i : Instr) (s : State) : Host.Outcome State Fault Refusal :=
  match i with
  | .read addr ctrl len => Sys2Proof.Machine.execRead addr ctrl len s
  | .write addr ctrl len => Sys2Proof.Machine.execWrite addr ctrl len s
  | .bringup => Sys2Proof.Machine.execBringup s
  | .wrGar => Sys2Proof.Machine.execWrGar s
  | .wrSubr => Sys2Proof.Machine.execWrSubr s
  | .wrShar => Sys2Proof.Machine.execWrShar s
  | .wrSipr => Sys2Proof.Machine.execWrSipr s
  | .rdMr => Sys2Proof.Machine.execRdMr s
  | .wrMr => Sys2Proof.Machine.execWrMr s
  | .rdVersionr => Sys2Proof.Machine.execRdVersionr s
  | .s1w => Sys2Proof.Machine.execS1w s
  | .s1wait => Sys2Proof.Machine.execS1wait s
  | .s1r => Sys2Proof.Machine.execS1r s
  | .s2w => Sys2Proof.Machine.execS2w s
  | .s2r => Sys2Proof.Machine.execS2r s
  | .s3w => Sys2Proof.Machine.execS3w s
  | .s3r => Sys2Proof.Machine.execS3r s
  | .s4w => Sys2Proof.Machine.execS4w s
  | .s4r => Sys2Proof.Machine.execS4r s
  | .s5r => Sys2Proof.Machine.execS5r s
  | .present => Sys2Proof.Machine.execPresent s
  | .absent => Sys2Proof.Machine.execAbsent s

end Sys2Proof.Machine
end

