-- ==== Sys2Proof/Decode.lean ====
section
/-! DEFINITION. The decoder of the two instruction formats, CMD (48-bit descriptor, 30_encoding.md R87) and USTEP (4-bit
micro-program counter, 30_encoding.md R93), total, rejecting by name, and the encoder. -/

namespace Sys2Proof

/-- What the block fetches: a descriptor from the command port, or the present value of `upc`. -/
inductive FetchWord where
  | cmd (d : Descriptor)
  | ustep (k : Upc)
  deriving DecidableEq, Repr

/-- Why a word is no instruction. -/
inductive DecodeError where
  /-- A reserved operation code (30_encoding.md R89). -/
  | reservedOp (op : Byte)
  /-- A value of `upc` that is never taken (10_state.md R25). -/
  | upcNeverTaken (k : Upc)
  deriving DecidableEq, Repr

/-- Descriptor field `op`, bits 47:40 (30_encoding.md R87). -/
def Descriptor.op (d : Descriptor) : Byte := d.extractLsb' 40 8

/-- Descriptor field `addr`, bits 39:24 (30_encoding.md R87). -/
def Descriptor.addr (d : Descriptor) : Half := d.extractLsb' 24 16

/-- Descriptor field `ctrl`, bits 23:16 (30_encoding.md R87). -/
def Descriptor.ctrl (d : Descriptor) : Byte := d.extractLsb' 16 8

/-- Descriptor field `len`, bits 15:0 (30_encoding.md R87). -/
def Descriptor.len (d : Descriptor) : Half := d.extractLsb' 0 16

/-- The descriptor with these fields (30_encoding.md R87). -/
def Descriptor.make (op : Byte) (addr : Half) (ctrl : Byte) (len : Half) : Descriptor :=
  op ++ addr ++ ctrl ++ len

/-- The instruction's name where a READ or WRITE spells a named access (30_encoding.md R95; log 16). -/
def Instr.named : Instr → Instr
  | .read addr ctrl len =>
    if (addr, ctrl, len) = (0x0000#16, 0x00#8, 1#16) then .rdMr
    else if (addr, ctrl, len) = (0x0039#16, 0x00#8, 1#16) then .rdVersionr
    else .read addr ctrl len
  | .write addr ctrl len =>
    if (addr, ctrl, len) = (0x0001#16, 0x04#8, 4#16) then .wrGar
    else if (addr, ctrl, len) = (0x0005#16, 0x04#8, 4#16) then .wrSubr
    else if (addr, ctrl, len) = (0x0009#16, 0x04#8, 6#16) then .wrShar
    else if (addr, ctrl, len) = (0x000F#16, 0x04#8, 4#16) then .wrSipr
    else if (addr, ctrl, len) = (0x0000#16, 0x04#8, 1#16) then .wrMr
    else .write addr ctrl len
  | i => i

/-- Decoding a command: the operation codes of 30_encoding.md R88; a descriptor that is a named access is read under
its name (R95, log 16); every other operation code is reserved (R89). -/
def decodeCommand (d : Descriptor) : Except DecodeError Instr :=
  if Descriptor.op d = 0x01#8 then
    .ok (Instr.read (Descriptor.addr d) (Descriptor.ctrl d) (Descriptor.len d)).named
  else if Descriptor.op d = 0x02#8 then
    .ok (Instr.write (Descriptor.addr d) (Descriptor.ctrl d) (Descriptor.len d)).named
  else if Descriptor.op d = 0x03#8 then .ok .bringup
  else .error (.reservedOp (Descriptor.op d))

/-- Decoding a micro-step: the `upc` column of 30_encoding.md R93, and the two terminal states of 10_state.md R25. -/
def decodeMicroStep (k : Upc) : Except DecodeError Instr :=
  match k.toNat with
  | 0 => .ok .s1w
  | 1 => .ok .s1wait
  | 2 => .ok .s1r
  | 3 => .ok .s2w
  | 4 => .ok .s2r
  | 5 => .ok .s3w
  | 6 => .ok .s3r
  | 7 => .ok .s4w
  | 8 => .ok .s4r
  | 9 => .ok .s5r
  | 10 => .ok .present
  | 11 => .ok .absent
  | _ => .error (.upcNeverTaken k)

/-- The decoder. -/
def decode : FetchWord → Except DecodeError Instr
  | .cmd d => decodeCommand d
  | .ustep k => decodeMicroStep k

/-- The encoder, from the tables of 30_encoding.md R88, R93 and R95. BRINGUP has its canonical descriptor (R91). -/
def encode : Instr → FetchWord
  | .read addr ctrl len => .cmd (Descriptor.make 0x01#8 addr ctrl len)
  | .write addr ctrl len => .cmd (Descriptor.make 0x02#8 addr ctrl len)
  | .bringup => .cmd 0x030000000000#48
  | .wrGar => .cmd 0x020001040004#48
  | .wrSubr => .cmd 0x020005040004#48
  | .wrShar => .cmd 0x020009040006#48
  | .wrSipr => .cmd 0x02000F040004#48
  | .rdMr => .cmd 0x010000000001#48
  | .wrMr => .cmd 0x020000040001#48
  | .rdVersionr => .cmd 0x010039000001#48
  | .s1w => .ustep 0#4
  | .s1wait => .ustep 1#4
  | .s1r => .ustep 2#4
  | .s2w => .ustep 3#4
  | .s2r => .ustep 4#4
  | .s3w => .ustep 5#4
  | .s3r => .ustep 6#4
  | .s4w => .ustep 7#4
  | .s4r => .ustep 8#4
  | .s5r => .ustep 9#4
  | .present => .ustep 10#4
  | .absent => .ustep 11#4

/-- The word of `nbits` bits (in whole bytes) whose bits are `w`, as spec/opcode_table.json numbers them: the rows of at
most one byte are the 4-bit micro-steps, the others descriptors. Bits above the row's width do not exist. -/
def fetchWordOf (nbits w : Nat) : FetchWord :=
  if nbits ≤ 8 then .ustep (BitVec.ofNat 4 w) else .cmd (BitVec.ofNat 48 w)

/-- The instruction this decoder reads from a word of the opcode table. -/
def decodeTableWord (nbits w : Nat) : Option Instr :=
  match decode (fetchWordOf nbits w) with
  | .ok i => some i
  | .error _ => none

end Sys2Proof
end

