-- ==== Sys2Proof/Machine/Fetch.lean ====
section
/-! DEFINITION. What the block does next, and how the inputs of the outside pass from step to step. -/

namespace Sys2Proof.Machine

open Sys2Proof

/-- What one step does. -/
inductive Action where
  /-- `rst` is 1 (70_reset_and_hazards.md R230, R231). -/
  | reset
  /-- Nothing: IDLE and no command is presented. -/
  | idle
  /-- A descriptor is accepted (20_memory.md R63). -/
  | command (d : Descriptor)
  /-- LOAD goes on taking data. -/
  | load
  /-- The micro-step at `upc` runs (10_state.md R25). -/
  | microStep
  /-- An exchange in mid-frame runs to its end. -/
  | resume
  /-- RESP: the host may take the response or read data. -/
  | deliver
  deriving DecidableEq, Repr

/-- The descriptor on `cmd_desc` while `cmd_valid` is 1. -/
def State.presented (s : State) : Option Descriptor := if s.pins.cmdValid then s.cmdIn.head? else none

/-- The present action: `rst` first, then by engine state. A command is accepted only in IDLE (`cmd_ready`, 20_memory.md
R63); while the sequence is active the micro-step at `upc` runs (10_state.md R25), unless its exchange is already in
mid-frame (log 7, log 20). -/
def State.nextAction (s : State) : Action :=
  if s.pins.rst then .reset
  else
    match s.fsm with
    | .idle =>
      match s.presented with
      | some d => .command d
      | none => .idle
    | .load => .load
    | .wait => .microStep
    | .xfer => if s.seqActive && (s.idx == 0#17 || (microRow s.upc).isNone) then .microStep else .resume
    | .resp => if s.seqActive && !s.respValid then .microStep else .deliver

/-- The accepted descriptor leaves the host's list. -/
def State.popCommand (s : State) : State := { s with cmdIn := s.cmdIn.tail }

/-- The pins take the levels of the coming step; without a script they stay (log 14). -/
def State.tickPins (s : State) : State :=
  { s with pins := s.pinScript.headD s.pins, pinScript := s.pinScript.tail }

/-- The pins after a step that goes on. -/
def advancePins : Host.Outcome State Fault Refusal → Host.Outcome State Fault Refusal
  | .next t => .next t.tickPins
  | .fault r => .fault r
  | .refused r => .refused r

/-- The data bytes of zeros that come with a descriptor whose data nobody has written: as many as a WRITE wants. -/
def zeroData (d : Descriptor) : List Byte :=
  if Descriptor.op d = Device.OP_WRITE then List.replicate (Descriptor.len d).toNat 0x00#8 else []

/-- The block is idle and the host presents this descriptor, with data bytes of zeros for a WRITE (log 1). -/
def State.presentCommand (d : Descriptor) (s : State) : State :=
  { s with
    pins := { s.pins with rst := false, rstDuring := none, cmdValid := true, wdataValid := true }
    fsm := .idle, seqActive := false, busy := false, respValid := false, ch := { s.ch with cs := false }
    cmdIn := d :: s.cmdIn
    wdataIn := zeroData d ++ s.wdataIn }

/-- A BRINGUP is running and micro-step `k` is about to run; for a terminal state, RESP is about to be filled (log 20). -/
def State.placeMicroStep (k : Upc) (s : State) : State :=
  match microRow k with
  | some _ =>
    ({ s with pins := { s.pins with rst := false, rstDuring := none }, seqActive := true, busy := true,
              respValid := false } : State).enterMicroStep k
  | none =>
    { s with
      pins := { s.pins with rst := false, rstDuring := none }, seqActive := true, busy := true, respValid := false,
      ch := { s.ch with cs := false }, fsm := .resp, upc := k }

/-- The word stands where the next step fetches it. -/
def State.placeFetchWord (w : FetchWord) (s : State) : State :=
  match w with
  | .cmd d => s.presentCommand d
  | .ustep k => s.placeMicroStep k

end Sys2Proof.Machine
end

