-- ==== Sys2Proof/Machine/Step.lean ====
section
/-! DEFINITION. One step of the block: at most one command, micro-step or handshake (spec/00_scope.md R7). -/

namespace Sys2Proof.Machine

open Sys2Proof

/-- One step. The diagnostic port is empty again at its beginning, the input pins take their next levels at its end. A
descriptor the decoder rejects is answered with ILLEGAL_CMD (30_encoding.md R89); a `upc` that is never taken stops the
machine (10_state.md R25). -/
def step (s : State) : Host.Outcome State Fault Refusal :=
  match s.clearDiag.nextAction with
  | .reset => .next s.clearDiag.doReset.tickPins
  | .idle => .next s.clearDiag.tickPins
  | .command d =>
    match decode (.cmd d) with
    | .ok i => advancePins (exec i s.clearDiag.popCommand)
    | .error _ => .next s.clearDiag.popCommand.refuseCommand.tickPins
  | .load => .next s.clearDiag.continueLoad.tickPins
  | .microStep =>
    match decode (.ustep s.upc) with
    | .ok i => advancePins (exec i s.clearDiag)
    | .error _ => .fault .upcNeverTaken
  | .resume => .next s.clearDiag.resume.tickPins
  | .deliver => .next s.clearDiag.deliver.tickPins

/-- `s` with the word (of `nbits` bits) where step fetches its next instruction. -/
def State.withFetchWord (s : State) (nbits w : Nat) : State := s.placeFetchWord (fetchWordOf nbits w)

end Sys2Proof.Machine
end

