-- ==== Sys2Proof/WellFormed.lean ====
section
/-! DEFINITION. What a well-formed instruction is: the length lies within MAXLEN (30_encoding.md R90, R94), and a READ
or WRITE whose descriptor is a named access is written by its name (30_encoding.md R95). An ill-formed length is not
stuck: the block answers it with ILLEGAL_CMD. -/

namespace Sys2Proof

/-- The instruction is in its canonical spelling. -/
def Instr.canonical (i : Instr) : Bool := i.named == i

/-- The payload length lies within MAXLEN (30_encoding.md R90, R94). -/
def Instr.lengthOk (p : Params) : Instr → Bool
  | .read _ _ len => decide (len.toNat ≤ p.maxLen)
  | .write _ _ len => decide (len.toNat ≤ p.maxLen)
  | _ => true

/-- A well-formed instruction. -/
def Instr.wellFormed (p : Params) (i : Instr) : Bool := i.canonical && i.lengthOk p

end Sys2Proof
end

