-- ==== Sys2Proof/Safety.lean ====
section
/-! DEFINITION. The terms in which claims about the block are made: runs, the state invariant, the bytes and outcomes of
the coming exchanges, the result and the wire trace of a BRINGUP, and what an observer sees. -/

namespace Sys2Proof.Machine

open Sys2Proof

/-! ### Runs -/

/-- `n` steps, up to the first stop. -/
def runSteps : Nat → State → Host.Outcome State Fault Refusal
  | 0, s => .next s
  | n + 1, s =>
    match step s with
    | .next t => runSteps n t
    | .fault r => .fault r
    | .refused r => .refused r

/-- The host asserts `rst` neither now nor later, neither at the beginning of a step nor in the course of one. -/
def State.NoReset (s : State) : Prop :=
  (s.pins.rst = false ∧ s.pins.rstDuring = none) ∧ ∀ p ∈ s.pinScript, p.rst = false ∧ p.rstDuring = none

/-- The host is ready for responses and read data now and later. -/
def State.HostTakes (s : State) : Prop :=
  (s.pins.respReady = true ∧ s.pins.rdataReady = true) ∧
    ∀ p ∈ s.pinScript, p.respReady = true ∧ p.rdataReady = true

/-- The states in which a run of the block rests between two steps. -/
structure State.Inv (s : State) : Prop where
  /-- `busy` is the complement of `cmd_ready` (10_state.md R28). -/
  busy_iff : s.busy = true ↔ s.fsm ≠ .idle
  /-- `cs` = 1 exactly while `fsm` = XFER (10_state.md R30). -/
  cs_iff : s.ch.cs = true ↔ s.fsm = .xfer
  /-- A response is valid only in RESP (10_state.md R26, R28). -/
  valid_resp : s.respValid = true → s.fsm = .resp
  /-- While the sequence is active `upc` is a micro-step, S1WAIT exactly in WAIT, or a terminal state whose response is
  still to be delivered (10_state.md R25, R26, R28). -/
  seq_step : s.seqActive = true →
    (s.fsm = .xfer ∧ s.upc.toNat ≤ 9 ∧ s.upc ≠ 1#4) ∨ (s.fsm = .wait ∧ s.upc = 1#4) ∨
    (s.fsm = .resp ∧ (s.upc = 10#4 ∨ s.upc = 11#4) ∧ s.respValid = true ∧ s.respStatus = .ok ∧ s.respLen = 0#16)
  /-- WAIT belongs to the sequence (10_state.md R26). -/
  wait_seq : s.fsm = .wait → s.seqActive = true
  /-- Between steps an exchange is at most about to send its first byte, for the sequence (log 8). -/
  xfer_seq : s.fsm = .xfer → s.seqActive = true ∧ s.idx = 0#17
  /-- LOAD waits for data (10_state.md R26). -/
  load_waits : s.fsm = .load → s.opQ = Device.OP_WRITE ∧ s.wbuf.length < s.lenQ.toNat
  /-- No latched length is above MAXLEN (30_encoding.md R90). -/
  len_le : s.lenQ.toNat ≤ s.cfg.maxLen
  /-- `idx` never wraps (10_state.md R24). -/
  idx_le : s.idx.toNat ≤ 3 + s.cfg.maxLen
  /-- The wait counter is idle outside S1WAIT (60_exceptions.md R211). -/
  wait_zero : s.fsm ≠ .wait → s.waitCnt = 0
  /-- `sclk` rests low between bytes (30_encoding.md R86). -/
  sclk_low : s.ch.sclk = false
  /-- Whole bytes have been shifted (30_encoding.md R86; that the bit counter is then at 0 is log 26). -/
  bits_whole : s.ch.bitCnt = 0#3
  /-- A response with data has as many bytes as it says (30_encoding.md R92). -/
  data_len : s.fsm = .resp → s.respLen ≠ 0#16 → s.rbuf.length = s.respLen.toNat
  /-- After the response has been taken, RESP lasts only while data is left (log 10). -/
  data_left : s.fsm = .resp → s.respValid = false → s.rdIdx < s.respLen.toNat
  /-- No read data is delivered before the response record has been taken (30_encoding.md R92). -/
  data_after : s.respValid = true → s.rdIdx = 0
  /-- An error response carries nothing (60_exceptions.md R201). -/
  error_empty : s.respStatus ≠ .ok → s.respLen = 0#16 ∧ s.respPresent = false

/-! ### Coming exchanges -/

/-- The bytes the device drives in the byte slots `i .. i+n` of the exchange that is `j` exchanges ahead. -/
def State.misoBytes (s : State) (j i n : Nat) : List Byte := (List.range n).map (fun k => s.misoAt j (i + k))

/-- From `s` to `t` exactly one answer of the outside has been used up (20_memory.md R68; log 3). -/
def State.UsesOneAnswer (s t : State) : Prop := t.answers = s.answers.tail ∧ t.exchNo = s.exchNo + 1

/-- The coming exchange has stopped early, after `chan_fail`, by the time `k` byte slots have run (40_transport.md
R118). -/
def State.stopsBy (s : State) (k : Nat) : Bool :=
  (s.answerAt 0).failSlot.any (fun f => decide (f ≤ k)) && decide ((s.answerAt 0).stopSlot ≤ k)

/-- `rst` rises before the coming exchange, of `n` bytes, is over (70_reset_and_hazards.md R231; log 15). -/
def State.rstCuts (s : State) (n : Nat) : Bool :=
  s.pins.rstDuring.any (fun k => decide (k < 8 * n) && !s.stopsBy (k / 8))

/-- `rst` rises before the reset wait about to run is over (70_reset_and_hazards.md R231; log 15). -/
def State.rstCutsWait (s : State) : Bool := s.pins.rstDuring.any (fun k => decide (k < s.cfg.waitCycles))

/-- The bits of a frame that have gone out after `k` pulses, besides its `k / 8` whole bytes. -/
def cutBits (frame : List Byte) (k : Nat) : List Bool := (bitsOf (frame.getD (k / 8) 0x00#8)).take (k % 8)

/-- The frames of a bus history, in order. -/
def sentFrames : List BusEvent → List (List Byte)
  | [] => []
  | .exchange sent _ :: es => sent :: sentFrames es
  | _ :: es => sentFrames es

/-! ### A BRINGUP as a whole -/

/-- The nine frames of a complete BRINGUP, in order (41_bringup.md R159). -/
def bringupFrames : List (List Byte) :=
  [ [0x00#8, 0x00#8, 0x04#8, 0x80#8], [0x00#8, 0x00#8, 0x00#8, 0x00#8], [0x00#8, 0x00#8, 0x04#8, 0x08#8],
    [0x00#8, 0x00#8, 0x00#8, 0x00#8], [0x00#8, 0x00#8, 0x04#8, 0x10#8], [0x00#8, 0x00#8, 0x00#8, 0x00#8],
    [0x00#8, 0x00#8, 0x04#8, 0x00#8], [0x00#8, 0x00#8, 0x00#8, 0x00#8], [0x00#8, 0x39#8, 0x00#8, 0x00#8] ]

/-- The exchange number `j` (0 .. 8) of a BRINGUP that begins at `s` would fail: all its frames have 4 bytes. -/
def State.bringupFail (s : State) (j : Nat) : Bool := s.failsAt j 4

/-- The byte that exchange number `j` of a BRINGUP that begins at `s` would return, if it is a read. -/
def State.bringupByte (s : State) (j : Nat) : Byte := s.misoAt j 3

/-- The result formula of 41_bringup.md R158, exchange by exchange. -/
def State.bringupPresent (s : State) : Bool :=
  !s.bringupFail 0 && !s.bringupFail 1 && (s.bringupByte 1 == 0x00#8) && !s.bringupFail 2 && !s.bringupFail 3 &&
    !s.bringupFail 4 && !s.bringupFail 5 && !s.bringupFail 6 && !s.bringupFail 7 && !s.bringupFail 8 &&
    (s.bringupByte 8 == 0x04#8)

/-- The number of exchanges a BRINGUP that begins at `s` performs (41_bringup.md R159). -/
def State.bringupCount (s : State) : Nat :=
  if s.bringupFail 0 then 1
  else if s.bringupFail 1 || s.bringupByte 1 != 0x00#8 then 2
  else if s.bringupFail 2 then 3
  else if s.bringupFail 3 then 4
  else if s.bringupFail 4 then 5
  else if s.bringupFail 5 then 6
  else if s.bringupFail 6 then 7
  else if s.bringupFail 7 then 8
  else 9

/-- A BRINGUP has just been accepted: its first micro-step is about to run. -/
def State.AtBringupStart (s : State) : Prop :=
  s.fsm = .xfer ∧ s.seqActive = true ∧ s.upc = 0#4 ∧ s.idx = 0#17

/-! ### Observers -/

/-- The diagnostic history once these events have been emitted: only if the build has the port (60_exceptions.md R212). -/
def State.diagAfter (s : State) (es : List DiagEvent) : List DiagEvent :=
  if s.cfg.traceBuilt then s.diagLog ++ es else s.diagLog

/-- The `XFER` event of a call, if `trace` was 1 at acceptance (40_transport.md R114). -/
def xferIf (trace : Bool) (e : DiagEvent) : List DiagEvent := if trace then [e] else []

/-- The block waits in RESP with exactly this response, and chip-select is released. -/
def State.Responds (t : State) (r : Response) : Prop :=
  t.fsm = .resp ∧ t.respValid = true ∧ t.response = r ∧ t.rdIdx = 0 ∧ t.ch.cs = false

/-- The sequence has come to `Absent`; the BRINGUP is still the command in progress (41_bringup.md R152, 10_state.md R28;
log 9). -/
def State.EndsAbsent (t : State) : Prop := t.upc = 11#4 ∧ t.seqActive = true ∧ t.Responds ⟨.ok, false, 0#16⟩

/-- The sequence has come to `Present`; the BRINGUP is still the command in progress (41_bringup.md R151, 10_state.md R28;
log 9). -/
def State.EndsPresent (t : State) : Prop := t.upc = 10#4 ∧ t.seqActive = true ∧ t.Responds ⟨.ok, true, 0#16⟩

/-- The block has taken its reset values, as far as the spec gives them (10_state.md R35). -/
def State.Restarted (t : State) : Prop :=
  t.fsm = .idle ∧ t.seqActive = false ∧ t.busy = false ∧ t.respValid = false ∧ t.idx = 0#17 ∧ t.upc = 0#4 ∧
    t.waitCnt = 0 ∧ t.ch.cs = false ∧ t.ch.sclk = false ∧ t.ch.mosi = false ∧ t.diagPort = none

/-- What no reset changes: the build, the commands still to be presented, and what the host has received. -/
def State.SameHost (s t : State) : Prop :=
  t.cfg = s.cfg ∧ t.cmdIn = s.cmdIn ∧ t.responses = s.responses ∧ t.rdataOut = s.rdataOut ∧ t.diagLog = s.diagLog

/-- `rst` has cut this frame short after `k` pulses: its whole bytes and bits up to there have gone out, no response has
come, and the block has restarted (70_reset_and_hazards.md R231; log 15). -/
def State.CutShort (s t : State) (frame : List Byte) (k : Nat) : Prop :=
  t.Restarted ∧ s.SameHost t ∧ t.bus = s.bus ++ [.truncated (frame.take (k / 8)) (cutBits frame k)] ∧
    s.UsesOneAnswer t ∧ t.ch.pulses = s.ch.pulses + k

/-- Micro-step `k`, one with an exchange, has begun: nothing of its frame has gone out yet (log 8). -/
def State.BeginsExchange (t : State) (k : Upc) : Prop :=
  t.upc = k ∧ t.fsm = .xfer ∧ t.ch.cs = true ∧ t.idx = 0#17 ∧ t.sent = []

/-- The operand latches hold these operands (10_state.md R21). -/
def State.Latched (t : State) (op : Byte) (addr : Half) (ctrl : Byte) (len : Half) : Prop :=
  t.opQ = op ∧ t.addrQ = addr ∧ t.ctrlQ = ctrl ∧ t.lenQ = len

/-- The operand latches and the copy of `trace_en` hold what they held before (10_state.md R21, R29). -/
def State.SameOperands (s t : State) : Prop := t.Latched s.opQ s.addrQ s.ctrlQ s.lenQ ∧ t.traceQ = s.traceQ

/-- What lies outside the block's registers is as before: the build, the pins, the commands still to be presented, and
what the host has received. -/
def State.SameOutside (s t : State) : Prop :=
  t.cfg = s.cfg ∧ t.pins = s.pins ∧ t.pinScript = s.pinScript ∧ t.cmdIn = s.cmdIn ∧ t.responses = s.responses ∧
    t.rdataOut = s.rdataOut

/-- Nothing has happened to the block but that a descriptor was answered: latches, buffers, counters, channel and sequencer,
the oracle, the host's data and the histories are as before. -/
def State.Untouched (s t : State) : Prop :=
  t.cfg = s.cfg ∧ t.wdataIn = s.wdataIn ∧ t.answers = s.answers ∧ t.exchNo = s.exchNo ∧ t.seqActive = s.seqActive ∧
    t.opQ = s.opQ ∧ t.addrQ = s.addrQ ∧ t.ctrlQ = s.ctrlQ ∧ t.lenQ = s.lenQ ∧ t.traceQ = s.traceQ ∧
    t.wbuf = s.wbuf ∧ t.rbuf = s.rbuf ∧ t.idx = s.idx ∧ t.upc = s.upc ∧ t.waitCnt = s.waitCnt ∧ t.ch = s.ch ∧
    t.bus = s.bus ∧ t.responses = s.responses ∧ t.rdataOut = s.rdataOut ∧ t.diagLog = s.diagLog

/-- The state without diagnostic port, `trace_en` and diagnostic history. -/
def State.eraseDiag (s : State) : State :=
  { s with
    cfg := { s.cfg with traceBuilt := false }
    pins := { s.pins with traceEn := false }
    pinScript := s.pinScript.map (fun p => { p with traceEn := false })
    traceQ := false, diagPort := none, diagLog := [] }

/-- What is left in the block by earlier commands is forgotten: latches, buffers, counters, response registers. -/
def State.forgetPast (s : State) : State :=
  { s with
    opQ := 0#8, addrQ := 0#16, ctrlQ := 0#8, lenQ := 0#16, traceQ := false, wbuf := [], rbuf := [], idx := 0#17,
    seqActive := false, upc := 0#4, failSeen := false, respStatus := .ok, respPresent := false, respLen := 0#16, rdIdx := 0, sent := [],
    ch := { s.ch with shift := 0#8, mosi := false, bitCnt := 0#3 } }

/-- What a command leads to: the engine state, the valid response with the read data that comes with it (a WRITE and an
error bring none), the bus history and the diagnostic history. -/
structure Outlook where
  fsm : Fsm
  response : Option (Response × List Byte)
  bus : List BusEvent
  diagLog : List DiagEvent
  deriving DecidableEq, Repr

/-- What an observer sees of the command in progress. -/
def State.outlook (s : State) : Outlook :=
  ⟨s.fsm, if s.respValid then some (s.response, s.rbuf.take s.respLen.toNat) else none, s.bus, s.diagLog⟩

/-- A function of the next state, where there is one. -/
def nextMap {α : Type} (f : State → α) : Host.Outcome State Fault Refusal → Option α
  | .next t => some (f t)
  | .fault _ => none
  | .refused _ => none

end Sys2Proof.Machine
end

