-- ==== Sys2Proof/Certificates/Slice0/Obligations.lean ====
section
/-! DEFINITION. The statements about the framer block that are to be proved. OBLIGATIONS.json lists them with the rules
they formalise. -/

open Sys2Proof Sys2Proof.Machine

/-! ### Encoding -/

/-- 30_encoding.md R87, R88, R93, R95: sample words, each written out from the spec's encoding. -/
def Obligations.SampleWordsDecode : Prop :=
  decode (.cmd 0x01FF000800FF#48) = .ok (.read 0xFF00#16 0x08#8 255#16) ∧
  decode (.cmd 0x027FFF0C00FF#48) = .ok (.write 0x7FFF#16 0x0C#8 255#16) ∧
  decode (.cmd 0x030000000000#48) = .ok .bringup ∧
  decode (.cmd 0x02000F040004#48) = .ok .wrSipr ∧
  decode (.cmd 0x010039000001#48) = .ok .rdVersionr ∧
  decode (.ustep 0b0101#4) = .ok .s3w ∧
  decode (.ustep 0b1011#4) = .ok .absent ∧
  decode (.cmd 0x000000000000#48) = .error (.reservedOp 0x00#8) ∧
  decode (.ustep 0b1100#4) = .error (.upcNeverTaken 12#4)

/-- Decode and encode agree on every instruction in its canonical spelling, at every operand (30_encoding.md R87, R88,
R93, R95; the canonical spelling is log 16). -/
def Obligations.DecodeInvertsEncode : Prop :=
  ∀ i : Instr, i.canonical = true → decode (encode i) = .ok i

/-- Every instruction, also a READ or WRITE that spells a named access, decodes from its own word to an instruction of
the same meaning: the named accesses add no behaviour (42_named_accesses.md, 30_encoding.md R95; log 16). -/
def Obligations.OwnWordMeansTheSame : Prop :=
  ∀ (i : Instr) (s : State), ∃ j, decode (encode i) = .ok j ∧ exec j s = exec i s

/-- 30_encoding.md R91: the other fields of a BRINGUP descriptor are ignored; the canonical spelling has them zero. -/
def Obligations.BringupFieldsIgnored : Prop :=
  encode .bringup = .cmd 0x030000000000#48 ∧
  ∀ (addr : Half) (ctrl : Byte) (len : Half), decode (.cmd (Descriptor.make 0x03#8 addr ctrl len)) = .ok .bringup

/-- The words the decoder rejects are the reserved operation codes and the values of `upc` never taken (30_encoding.md
R88, R89; 10_state.md R25). -/
def Obligations.RejectedWords : Prop :=
  (∀ d : Descriptor, (∃ e, decode (.cmd d) = .error e) ↔
    Descriptor.op d ≠ 0x01#8 ∧ Descriptor.op d ≠ 0x02#8 ∧ Descriptor.op d ≠ 0x03#8) ∧
  (∀ k : Upc, (∃ e, decode (.ustep k) = .error e) ↔ 12 ≤ k.toNat)

/-! ### Steps -/

/-- When the block is idle, without `rst`, and the host presents a descriptor that decodes to `i`, a step is exec of `i`
at the state with the diagnostic port cleared and the descriptor taken, and then the input pins take their next
levels. -/
def Obligations.StepRunsDecodedCommand : Prop :=
  ∀ (s : State) (d : Descriptor) (i : Instr), s.pins.rst = false → s.fsm = .idle → s.pins.cmdValid = true →
    s.cmdIn.head? = some d → decode (.cmd d) = .ok i → step s = advancePins (exec i s.clearDiag.popCommand)

/-- While the sequence is active, no frame is in mid-air and no response waits, a step is exec of the micro-step at `upc`
(10_state.md R25), with the diagnostic port cleared before and the input pins advanced after. A terminal state runs in RESP
before its response is valid (log 20). -/
def Obligations.StepRunsMicroStep : Prop :=
  ∀ (s : State) (i : Instr), s.pins.rst = false → s.seqActive = true →
    (s.fsm = .wait ∨ (s.fsm = .resp ∧ s.respValid = false) ∨ (s.fsm = .xfer ∧ s.idx = 0#17)) →
    decode (.ustep s.upc) = .ok i → step s = advancePins (exec i s.clearDiag)

/-- 30_encoding.md R89: a descriptor with a reserved operation code is answered with ILLEGAL_CMD: no exchange, chip-select
stays released, no write data is taken, no diagnostic event is emitted. (What else stays: RefusedCommandChangesNothingElse.) -/
def Obligations.ReservedOpRefused : Prop :=
  ∀ (s : State) (d : Descriptor), s.pins.rst = false → s.fsm = .idle → s.pins.cmdValid = true →
    s.cmdIn.head? = some d → Descriptor.op d ≠ 0x01#8 → Descriptor.op d ≠ 0x02#8 → Descriptor.op d ≠ 0x03#8 →
    s.ch.cs = false → ∃ t, step s = .next t ∧ t.Responds ⟨.illegalCmd, false, 0#16⟩ ∧ t.bus = s.bus ∧ t.ch = s.ch ∧
      t.answers = s.answers ∧ t.exchNo = s.exchNo ∧ t.wdataIn = s.wdataIn ∧ t.diagLog = s.diagLog ∧ t.diagPort = none ∧
      t.cmdIn = s.cmdIn.tail

/-- 30_encoding.md R90: a READ or WRITE with a length above MAXLEN is refused in the same way. (What else stays:
RefusedCommandChangesNothingElse.) -/
def Obligations.OverlongLengthRefused : Prop :=
  ∀ (s : State) (addr : Half) (ctrl : Byte) (len : Half), s.cfg.maxLen < len.toNat → s.ch.cs = false →
    ∀ i ∈ [Instr.read addr ctrl len, Instr.write addr ctrl len],
      ∃ t, exec i s = .next t ∧ t.Responds ⟨.illegalCmd, false, 0#16⟩ ∧ t.bus = s.bus ∧ t.ch = s.ch ∧
        t.answers = s.answers ∧ t.exchNo = s.exchNo ∧ t.wdataIn = s.wdataIn ∧ t.diagLog = s.diagLog

/-- 92_eei_decisions.md D8: a refused command, whatever it is refused for, makes the block busy with its response and changes
nothing else: latches, buffers, counters, channel, sequencer, the oracle, the host's data and the histories are as before.
That the operand latches and the copy of `trace_en` keep their values is log 11. -/
def Obligations.RefusedCommandChangesNothingElse : Prop :=
  (∀ (s : State) (d : Descriptor), s.pins.rst = false → s.fsm = .idle → s.pins.cmdValid = true →
    s.cmdIn.head? = some d → Descriptor.op d ≠ 0x01#8 → Descriptor.op d ≠ 0x02#8 → Descriptor.op d ≠ 0x03#8 →
    ∃ t, step s = .next t ∧ t.busy = true ∧ s.Untouched t ∧ t.cmdIn = s.cmdIn.tail) ∧
  ∀ (s : State) (addr : Half) (ctrl : Byte) (len : Half), s.cfg.maxLen < len.toNat →
    ∀ i ∈ [Instr.read addr ctrl len, Instr.write addr ctrl len],
      ∃ t, exec i s = .next t ∧ t.busy = true ∧ s.Untouched t ∧ t.cmdIn = s.cmdIn ∧ t.pins = s.pins ∧
        t.diagPort = s.diagPort

/-- 20_memory.md R63: no command is accepted while one is in progress. -/
def Obligations.NoCommandAcceptedWhileBusy : Prop :=
  ∀ s t : State, s.fsm ≠ .idle → step s = .next t → t.cmdIn = s.cmdIn

/-- A step performs at most one exchange, wait or truncation, and the bus history is never rewritten (00_scope.md R7,
20_memory.md R58, R62); the build parameters never change. -/
def Obligations.AtMostOneBusEventAStep : Prop :=
  ∀ s t : State, step s = .next t → t.cfg = s.cfg ∧ ∃ es, t.bus = s.bus ++ es ∧ es.length ≤ 1

/-! ### READ and WRITE -/

/-- 40_transport.md R110: a READ of an accepted length sends the zero-filled frame in exactly one exchange, uses up one
answer of the device for it, and answers with the bytes from offset 3, or with BUS_FAILURE and no byte; the latches hold its
operands (10_state.md R21, R29). (Where `rst` cuts the exchange short: ResetCutsRead.) -/
def Obligations.ReadCommand : Prop :=
  ∀ (s : State) (addr : Half) (ctrl : Byte) (len : Half), len.toNat ≤ s.cfg.maxLen →
    s.rstCuts (3 + len.toNat) = false →
    ∃ t, exec (.read addr ctrl len) s = .next t ∧ t.busy = true ∧ s.UsesOneAnswer t ∧
      t.Latched 0x01#8 addr ctrl len ∧ t.traceQ = s.pins.traceEn ∧
      (s.failsAt 0 (3 + len.toNat) = false →
        t.Responds ⟨.ok, false, len⟩ ∧ t.rbuf = s.misoBytes 0 3 len.toNat ∧
        t.bus = s.bus ++ [.exchange (readFrame addr ctrl len.toNat) true] ∧
        t.diagLog = s.diagAfter (xferIf s.pins.traceEn (.xfer .r addr ctrl (s.misoBytes 0 3 len.toNat) true))) ∧
      (s.failsAt 0 (3 + len.toNat) = true →
        t.Responds ⟨.busFailure, false, 0#16⟩ ∧ t.rbuf = [] ∧
        (∃ m, t.bus = s.bus ++ [.exchange ((readFrame addr ctrl len.toNat).take m) false]) ∧
        t.diagLog = s.diagAfter (xferIf s.pins.traceEn (.xfer .r addr ctrl [] false)))

/-- 40_transport.md R111: a WRITE of an accepted length whose data the host offers takes exactly its data, sends header and
data verbatim in exactly one exchange, uses up one answer of the device for it, and answers OK or BUS_FAILURE; the latches
hold its operands and the write buffer its data (10_state.md R21, R22, R29). That all the data is taken and the exchange
performed in one step is the model's choice (log 19). (Where `rst` cuts the exchange short: ResetCutsWrite.) -/
def Obligations.WriteCommand : Prop :=
  ∀ (s : State) (addr : Half) (ctrl : Byte) (len : Half) (data rest : List Byte), len.toNat ≤ s.cfg.maxLen →
    s.pins.wdataValid = true → s.wdataIn = data ++ rest → data.length = len.toNat →
    s.rstCuts (3 + len.toNat) = false →
    ∃ t, exec (.write addr ctrl len) s = .next t ∧ t.busy = true ∧ t.wdataIn = rest ∧ s.UsesOneAnswer t ∧
      t.Latched 0x02#8 addr ctrl len ∧ t.traceQ = s.pins.traceEn ∧ t.wbuf = data ∧
      (s.failsAt 0 (3 + len.toNat) = false →
        t.Responds ⟨.ok, false, 0#16⟩ ∧ t.bus = s.bus ++ [.exchange (writeFrame addr ctrl data) true] ∧
        t.diagLog = s.diagAfter (xferIf s.pins.traceEn (.xfer .w addr ctrl data true))) ∧
      (s.failsAt 0 (3 + len.toNat) = true →
        t.Responds ⟨.busFailure, false, 0#16⟩ ∧
        (∃ m, t.bus = s.bus ++ [.exchange ((writeFrame addr ctrl data).take m) false]) ∧
        t.diagLog = s.diagAfter (xferIf s.pins.traceEn (.xfer .w addr ctrl data false)))

/-- While the host offers too little data a WRITE waits in LOAD: chip-select has not moved and nothing has gone out
(10_state.md R26, 40_transport.md R113). That one step takes everything on offer is the model's choice (log 19). -/
def Obligations.WriteWaitsForData : Prop :=
  ∀ (s : State) (addr : Half) (ctrl : Byte) (len : Half), len.toNat ≤ s.cfg.maxLen →
    s.wdataOffered.length < len.toNat →
    ∃ t, exec (.write addr ctrl len) s = .next t ∧ t.fsm = .load ∧ t.busy = true ∧ t.wbuf = s.wdataOffered ∧
      t.wdataIn = s.wdataIn.drop s.wdataOffered.length ∧ t.bus = s.bus ∧ t.ch = s.ch ∧ t.answers = s.answers ∧
      t.exchNo = s.exchNo ∧ t.diagLog = s.diagLog ∧
      t.lenQ = len ∧ t.addrQ = addr ∧ t.ctrlQ = ctrl ∧ t.opQ = 0x02#8

/-- A WRITE that waits in LOAD goes on when the host offers the data that is missing: its frame, its outcome and its event
are the same as if all data had been there at once, one answer of the device is used up, and the latches hold what they held
(10_state.md R21, R22, 40_transport.md R113, R114, R116, 30_encoding.md R83). That one step takes all the missing bytes and
performs the exchange is the model's choice (log 19). The sequence is not active in LOAD: EveryStepKeepsInvariant. (Where
`rst` cuts the exchange short: ResetCutsLoad.) -/
def Obligations.LoadGoesOnWithMissingData : Prop :=
  ∀ (s : State) (more rest : List Byte), s.pins.rst = false → s.fsm = .load → s.opQ = 0x02#8 → s.seqActive = false →
    s.pins.wdataValid = true → s.wdataIn = more ++ rest → s.wbuf.length + more.length = s.lenQ.toNat →
    s.rstCuts (3 + s.lenQ.toNat) = false →
    ∃ t, step s = .next t ∧ t.wdataIn = rest ∧ s.UsesOneAnswer t ∧ s.SameOperands t ∧ t.wbuf = s.wbuf ++ more ∧
      (s.failsAt 0 (3 + s.lenQ.toNat) = false →
        t.Responds ⟨.ok, false, 0#16⟩ ∧
        t.bus = s.bus ++ [.exchange (writeFrame s.addrQ s.ctrlQ (s.wbuf ++ more)) true] ∧
        t.diagLog = s.diagAfter (xferIf s.traceQ (.xfer .w s.addrQ s.ctrlQ (s.wbuf ++ more) true))) ∧
      (s.failsAt 0 (3 + s.lenQ.toNat) = true →
        t.Responds ⟨.busFailure, false, 0#16⟩ ∧
        (∃ m, t.bus = s.bus ++ [.exchange ((writeFrame s.addrQ s.ctrlQ (s.wbuf ++ more)).take m) false]) ∧
        t.diagLog = s.diagAfter (xferIf s.traceQ (.xfer .w s.addrQ s.ctrlQ (s.wbuf ++ more) false)))

/-- A WRITE that waits in LOAD and is offered still too little stays in LOAD: chip-select does not move, nothing goes out, no
answer of the device is used up and no response or event comes (10_state.md R26, 40_transport.md R113). That one step takes
everything on offer is the model's choice (log 19). -/
def Obligations.LoadWaitsWhileDataShort : Prop :=
  ∀ s : State, s.pins.rst = false → s.fsm = .load → s.wdataOffered.length < s.wdataMissing →
    ∃ t, step s = .next t ∧ t.fsm = .load ∧ t.wbuf = s.wbuf ++ s.wdataOffered ∧
      t.wdataIn = s.wdataIn.drop s.wdataOffered.length ∧ t.bus = s.bus ∧ t.ch = s.ch ∧ t.answers = s.answers ∧
      t.exchNo = s.exchNo ∧ t.diagLog = s.diagLog ∧ t.diagPort = none ∧ t.busy = s.busy ∧
      t.respValid = s.respValid ∧ t.cmdIn = s.cmdIn ∧
      t.lenQ = s.lenQ ∧ t.addrQ = s.addrQ ∧ t.ctrlQ = s.ctrlQ ∧ t.opQ = s.opQ ∧ t.traceQ = s.traceQ

/-- 40_transport.md R117: a zero-length READ and a zero-length WRITE are legal, send the three header bytes alone, and
are alike on the wire. -/
def Obligations.ZeroLengthAccesses : Prop :=
  ∀ (s : State) (addr : Half) (ctrl : Byte), s.failsAt 0 3 = false → s.rstCuts 3 = false →
    ∃ t u, exec (.read addr ctrl 0#16) s = .next t ∧ exec (.write addr ctrl 0#16) s = .next u ∧
      t.Responds ⟨.ok, false, 0#16⟩ ∧ t.rbuf = [] ∧ u.Responds ⟨.ok, false, 0#16⟩ ∧
      t.bus = s.bus ++ [.exchange (header addr ctrl) true] ∧ u.bus = t.bus

/-- What a READ leaves unchanged: everything outside the latches, the channel, the read buffer, the response registers,
`busy` and the bus and diagnostic histories; where `rst` cuts it short, the reset still leaves what lies outside the block
and the host's data alone. -/
def Obligations.ReadFrame : Prop :=
  ∀ (s t : State) (addr : Half) (ctrl : Byte) (len : Half), exec (.read addr ctrl len) s = .next t →
    s.SameOutside t ∧ t.wdataIn = s.wdataIn ∧ (s.seqActive = false → t.seqActive = false) ∧
      (s.pins.traceEn = false → t.diagLog = s.diagLog) ∧
      (s.cfg.maxLen < len.toNat ∨ s.rstCuts (3 + len.toNat) = false →
        t.wbuf = s.wbuf ∧ t.upc = s.upc ∧ t.waitCnt = s.waitCnt ∧
        (s.pins.traceEn = false → t.diagPort = s.diagPort))

/-- What a WRITE leaves unchanged: as for a READ, but it fills the write buffer and takes data; of the host's data it
takes a first part of at most `len` bytes. -/
def Obligations.WriteFrame : Prop :=
  ∀ (s t : State) (addr : Half) (ctrl : Byte) (len : Half), exec (.write addr ctrl len) s = .next t →
    s.SameOutside t ∧ (s.seqActive = false → t.seqActive = false) ∧
      (∃ n, n ≤ len.toNat ∧ t.wdataIn = s.wdataIn.drop n) ∧
      (s.pins.traceEn = false → t.diagLog = s.diagLog) ∧
      (s.cfg.maxLen < len.toNat ∨ s.rstCuts (3 + len.toNat) = false →
        t.upc = s.upc ∧ t.waitCnt = s.waitCnt ∧ (s.pins.traceEn = false → t.diagPort = s.diagPort))

/-- 42_named_accesses.md R180 to R183, R185: the configuration writes and the mode register write send these frames and use
up one answer of the device. That all the data is taken and the exchange performed in one step is the model's choice
(log 19). -/
def Obligations.NamedWrites : Prop :=
  ∀ (s : State), s.pins.wdataValid = true →
    ∀ c ∈ [(Instr.wrGar, [0x00#8, 0x01#8, 0x04#8], 4), (Instr.wrSubr, [0x00#8, 0x05#8, 0x04#8], 4),
           (Instr.wrShar, [0x00#8, 0x09#8, 0x04#8], 6), (Instr.wrSipr, [0x00#8, 0x0F#8, 0x04#8], 4),
           (Instr.wrMr, [0x00#8, 0x00#8, 0x04#8], 1)],
    ∀ data rest : List Byte, s.wdataIn = data ++ rest → data.length = c.2.2 → s.rstCuts (3 + c.2.2) = false →
    ∃ t, exec c.1 s = .next t ∧ t.busy = true ∧ t.wdataIn = rest ∧ s.UsesOneAnswer t ∧
      (s.failsAt 0 (3 + c.2.2) = false →
        t.Responds ⟨.ok, false, 0#16⟩ ∧ t.bus = s.bus ++ [.exchange (c.2.1 ++ data) true]) ∧
      (s.failsAt 0 (3 + c.2.2) = true →
        t.Responds ⟨.busFailure, false, 0#16⟩ ∧ ∃ m, t.bus = s.bus ++ [.exchange ((c.2.1 ++ data).take m) false])

/-- 42_named_accesses.md R184, R186: the reads of the mode and version registers, each of which uses up one answer of the
device. -/
def Obligations.NamedReads : Prop :=
  ∀ (s : State), s.rstCuts 4 = false →
    ∀ c ∈ [(Instr.rdMr, [0x00#8, 0x00#8, 0x00#8, 0x00#8]), (Instr.rdVersionr, [0x00#8, 0x39#8, 0x00#8, 0x00#8])],
    ∃ t, exec c.1 s = .next t ∧ t.busy = true ∧ s.UsesOneAnswer t ∧
      (s.failsAt 0 4 = false → t.Responds ⟨.ok, false, 1#16⟩ ∧ t.rbuf = [s.misoAt 0 3] ∧
        t.bus = s.bus ++ [.exchange c.2 true]) ∧
      (s.failsAt 0 4 = true → t.Responds ⟨.busFailure, false, 0#16⟩ ∧ t.rbuf = [] ∧
        ∃ m, t.bus = s.bus ++ [.exchange (c.2.take m) false])

/-- 30_encoding.md R95: each named access has the descriptor of the table and is the one READ or WRITE it expands to. -/
def Obligations.NamedAccessesExpand : Prop :=
  (encode .wrGar = .cmd 0x020001040004#48 ∧ encode .wrSubr = .cmd 0x020005040004#48 ∧
    encode .wrShar = .cmd 0x020009040006#48 ∧ encode .wrSipr = .cmd 0x02000F040004#48 ∧
    encode .wrMr = .cmd 0x020000040001#48 ∧ encode .rdMr = .cmd 0x010000000001#48 ∧
    encode .rdVersionr = .cmd 0x010039000001#48) ∧
  ∀ s : State,
    exec .wrGar s = exec (.write 0x0001#16 0x04#8 4#16) s ∧ exec .wrSubr s = exec (.write 0x0005#16 0x04#8 4#16) s ∧
    exec .wrShar s = exec (.write 0x0009#16 0x04#8 6#16) s ∧ exec .wrSipr s = exec (.write 0x000F#16 0x04#8 4#16) s ∧
    exec .wrMr s = exec (.write 0x0000#16 0x04#8 1#16) s ∧ exec .rdMr s = exec (.read 0x0000#16 0x00#8 1#16) s ∧
    exec .rdVersionr s = exec (.read 0x0039#16 0x00#8 1#16) s

/-- The pulses of a successful exchange: eight a byte, `8 * (3 + L)` in all, after which `sclk` is low (30_encoding.md R86,
70_reset_and_hazards.md R242): of every READ, of a WRITE whose data is on offer or is completed in LOAD (in one step: log 19),
and of a micro-step. -/
def Obligations.EightPulsesAByte : Prop :=
  (∀ (s : State) (addr : Half) (ctrl : Byte) (len : Half) (i : Instr), len.toNat ≤ s.cfg.maxLen →
    s.failsAt 0 (3 + len.toNat) = false → s.rstCuts (3 + len.toNat) = false →
    (i = .read addr ctrl len ∨ (i = .write addr ctrl len ∧ len.toNat ≤ s.wdataOffered.length)) →
    ∃ t, exec i s = .next t ∧ t.ch.pulses = s.ch.pulses + 8 * (3 + len.toNat) ∧ t.ch.sclk = false ∧
      t.idx.toNat = 3 + len.toNat) ∧
  (∀ s : State, s.pins.rst = false → s.fsm = .load → s.wdataMissing ≤ s.wdataOffered.length →
    s.failsAt 0 (3 + s.lenQ.toNat) = false → s.rstCuts (3 + s.lenQ.toNat) = false →
    ∃ t, step s = .next t ∧ t.ch.pulses = s.ch.pulses + 8 * (3 + s.lenQ.toNat) ∧ t.ch.sclk = false ∧
      t.idx.toNat = 3 + s.lenQ.toNat) ∧
  (∀ s : State, s.failsAt 0 4 = false → s.rstCuts 4 = false →
    ∀ i ∈ [Instr.s1w, .s1r, .s2w, .s2r, .s3w, .s3r, .s4w, .s4r, .s5r],
      ∃ t, exec i s = .next t ∧ t.ch.pulses = s.ch.pulses + 32 ∧ t.ch.sclk = false)

/-- 30_encoding.md R86: the eight pulses of a byte slot put the byte on `mosi` bit 7 first, while the first bit sampled on
`miso` becomes bit 7 of the byte received; afterwards `sclk` is low, the bit counter is at 0 again (how it counts is the
model's choice, log 26), and chip-select has not moved. The byte slot of an exchange is that: it shifts the frame's byte out
and the device's byte in, and the device has sampled the frame's byte. -/
def Obligations.ByteSlotBitOrder : Prop :=
  (∀ (ch : Channel) (t : Byte) (m7 m6 m5 m4 m3 m2 m1 m0 : Bool),
    ∃ u, (ch.load t).shiftBits [m7, m6, m5, m4, m3, m2, m1, m0] =
        ([t.getLsbD 7, t.getLsbD 6, t.getLsbD 5, t.getLsbD 4, t.getLsbD 3, t.getLsbD 2, t.getLsbD 1, t.getLsbD 0], u) ∧
      u.shift.getLsbD 7 = m7 ∧ u.shift.getLsbD 6 = m6 ∧ u.shift.getLsbD 5 = m5 ∧ u.shift.getLsbD 4 = m4 ∧
      u.shift.getLsbD 3 = m3 ∧ u.shift.getLsbD 2 = m2 ∧ u.shift.getLsbD 1 = m1 ∧ u.shift.getLsbD 0 = m0 ∧
      u.pulses = ch.pulses + 8 ∧ u.sclk = false ∧ u.bitCnt = 0#3 ∧ u.cs = ch.cs) ∧
  (∀ s : State,
    s.byteSlot.ch = ((s.ch.load (s.txByte s.idx.toNat)).shiftBits (bitsOf (s.misoAt 0 s.idx.toNat))).2 ∧
    s.byteSlot.ch.shift = s.misoAt 0 s.idx.toNat ∧ s.byteSlot.sent = s.sent ++ [s.txByte s.idx.toNat])

/-- An exchange in mid-frame advances byte slot by byte slot: one byte slot and then the step is the step
(40_transport.md R118; log 7). -/
def Obligations.MidFrameStepRefinesToByteSlots : Prop :=
  ∀ s : State, s.pins.rst = false → s.pins.rstDuring = none → s.fsm = .xfer → s.idx.toNat < s.frameLen →
    (s.seqActive = false ∨ (s.idx ≠ 0#17 ∧ (microRow s.upc).isSome = true)) → s.sampleFail.stopsEarly = false →
    step s = step s.sampleFail.byteSlot

/-! ### BRINGUP -/

/-- The acceptance of a BRINGUP: the sequence is active from micro-step 0 on, `trace_en` has been sampled, and the write
buffer, the wait counter and the oracle are as before (41_bringup.md R140, R155; 10_state.md R22, R28, R29). That the exchange
of S1W has begun with it, its operands loaded, is the model's choice (log 8). -/
def Obligations.BringupStarts : Prop :=
  ∀ s : State, ∃ t, exec .bringup s = .next t ∧ t.seqActive = true ∧ t.busy = true ∧ t.traceQ = s.pins.traceEn ∧
    t.BeginsExchange 0#4 ∧ t.bus = s.bus ∧ t.diagLog = s.diagLog ∧ s.SameOutside t ∧ t.wdataIn = s.wdataIn ∧
    t.opQ = 0x02#8 ∧ t.addrQ = 0x0000#16 ∧ t.ctrlQ = 0x04#8 ∧ t.lenQ = 1#16 ∧ t.wbuf = s.wbuf ∧ t.waitCnt = s.waitCnt ∧
    t.answers = s.answers ∧ t.exchNo = s.exchNo

/-- 41_bringup.md R141, R144, R146, R148: the write micro-steps send their constants in exactly one exchange, go on when it
succeeds and end the sequence in `Absent` when it fails. That the next micro-step has begun in the same step is log 8, that
`seq_active` is still 1 in RESP is R28, log 9. (Where `rst` cuts the exchange short: ResetCutsMicroSteps.) -/
def Obligations.WriteMicroSteps : Prop :=
  ∀ (s : State), s.rstCuts 4 = false →
    ∀ c ∈ [(Instr.s1w, 0#4, 0x80#8), (Instr.s2w, 3#4, 0x08#8), (Instr.s3w, 5#4, 0x10#8), (Instr.s4w, 7#4, 0x00#8)],
    ∃ t, exec c.1 s = .next t ∧ s.UsesOneAnswer t ∧
      (s.failsAt 0 4 = false →
        t.upc = c.2.1 + 1#4 ∧ t.seqActive = true ∧
        (c.2.1 = 0#4 → t.fsm = .wait ∧ t.ch.cs = false ∧ t.waitCnt = s.cfg.waitCycles) ∧
        (c.2.1 ≠ 0#4 → t.BeginsExchange (c.2.1 + 1#4)) ∧
        t.bus = s.bus ++ [.exchange [0x00#8, 0x00#8, 0x04#8, c.2.2] true] ∧
        t.diagLog = s.diagAfter (xferIf s.traceQ (.xfer .w 0x0000#16 0x04#8 [c.2.2] true))) ∧
      (s.failsAt 0 4 = true →
        t.EndsAbsent ∧ (∃ m, t.bus = s.bus ++ [.exchange ([0x00#8, 0x00#8, 0x04#8, c.2.2].take m) false]) ∧
        t.diagLog = s.diagAfter (xferIf s.traceQ (.xfer .w 0x0000#16 0x04#8 [c.2.2] false) ++ [.busfail c.2.1]))

/-- 41_bringup.md R142, 10_state.md R27: S1WAIT performs no exchange, always completes, and goes on to S1R; while it waits,
WAIT_CYCLES cycles long, the counter goes down by one a cycle and chip-select stays released. That S1R has begun in the same
step is the model's choice (log 8), that the wait is one step is logs 7 and 22. (Where `rst` ends the wait: ResetCutsWait.) -/
def Obligations.ResetWait : Prop :=
  ∀ s : State, s.rstCutsWait = false →
    (∀ n, n ≤ s.cfg.waitCycles →
      ((s.atMicroStep 1#4).enterWait.waitTicks n).fsm = .wait ∧ ((s.atMicroStep 1#4).enterWait.waitTicks n).ch.cs = false ∧
      ((s.atMicroStep 1#4).enterWait.waitTicks n).waitCnt = s.cfg.waitCycles - n) ∧
    ∃ t, exec .s1wait s = .next t ∧ t.BeginsExchange 2#4 ∧ t.seqActive = true ∧ t.busy = s.busy ∧
      t.bus = s.bus ++ [.wait s.cfg.waitCycles] ∧ t.waitCnt = 0 ∧ t.diagLog = s.diagLog ∧ t.answers = s.answers ∧
      t.exchNo = s.exchNo ∧ t.ch.pulses = s.ch.pulses

/-- WAIT_CYCLES is the ceiling of T_RST_WAIT * F_CLK, in every build: so many cycles of F_CLK last at least T_RST_WAIT and one
fewer does not; T_RST_WAIT is at least 10 ms, so the wait lasts at least 10 ms, and WAIT_CYCLES is at least 1 (00_scope.md R6,
60_exceptions.md R211, 41_bringup.md R142; nanoseconds and hertz are log 6). -/
def Obligations.WaitLastsTenMilliseconds : Prop :=
  ∀ p : Params, 10000000 ≤ p.rstWaitNs ∧ 10 * p.fClk ≤ 1000 * p.waitCycles ∧ 1 ≤ p.waitCycles ∧
    p.rstWaitNs * p.fClk ≤ p.waitCycles * 1000000000 ∧ (p.waitCycles - 1) * 1000000000 < p.rstWaitNs * p.fClk

/-- 41_bringup.md R143: S1R goes on exactly when the byte is 0x00. That the next micro-step has begun in the same step is
log 8, that `seq_active` is still 1 in RESP is R28, log 9. -/
def Obligations.ResetReadback : Prop :=
  ∀ s : State, s.rstCuts 4 = false → ∃ t, exec .s1r s = .next t ∧ s.UsesOneAnswer t ∧
    (s.failsAt 0 4 = false →
      t.bus = s.bus ++ [.exchange [0x00#8, 0x00#8, 0x00#8, 0x00#8] true] ∧
      (s.misoAt 0 3 = 0x00#8 → t.BeginsExchange 3#4 ∧ t.seqActive = true ∧
        t.diagLog = s.diagAfter (xferIf s.traceQ (.xfer .r 0x0000#16 0x00#8 [0x00#8] true))) ∧
      (s.misoAt 0 3 ≠ 0x00#8 → t.EndsAbsent ∧
        t.diagLog = s.diagAfter (xferIf s.traceQ (.xfer .r 0x0000#16 0x00#8 [s.misoAt 0 3] true) ++
          [.mismatch 1 0x00#8 (s.misoAt 0 3) true]))) ∧
    (s.failsAt 0 4 = true → t.EndsAbsent ∧
      (∃ m, t.bus = s.bus ++ [.exchange ([0x00#8, 0x00#8, 0x00#8, 0x00#8].take m) false]) ∧
      t.diagLog = s.diagAfter (xferIf s.traceQ (.xfer .r 0x0000#16 0x00#8 [] false) ++ [.busfail 2#4]))

/-- 41_bringup.md R145, R147, R149: a probe read goes on whatever byte comes back, with an event on a mismatch; only a
failed exchange aborts. That the next micro-step has begun in the same step is log 8, that `seq_active` is still 1 in RESP is R28,
log 9. -/
def Obligations.ProbeReads : Prop :=
  ∀ (s : State), s.rstCuts 4 = false →
    ∀ c ∈ [(Instr.s2r, 4#4, 0x08#8, 2), (Instr.s3r, 6#4, 0x10#8, 3), (Instr.s4r, 8#4, 0x00#8, 4)],
    ∃ t, exec c.1 s = .next t ∧ s.UsesOneAnswer t ∧
      (s.failsAt 0 4 = false →
        t.BeginsExchange (c.2.1 + 1#4) ∧ t.seqActive = true ∧
        t.bus = s.bus ++ [.exchange [0x00#8, 0x00#8, 0x00#8, 0x00#8] true] ∧
        t.diagLog = s.diagAfter (xferIf s.traceQ (.xfer .r 0x0000#16 0x00#8 [s.misoAt 0 3] true) ++
          (if s.misoAt 0 3 = c.2.2.1 then [] else [.mismatch c.2.2.2 c.2.2.1 (s.misoAt 0 3) false]))) ∧
      (s.failsAt 0 4 = true → t.EndsAbsent ∧
        (∃ m, t.bus = s.bus ++ [.exchange ([0x00#8, 0x00#8, 0x00#8, 0x00#8].take m) false]) ∧
        t.diagLog = s.diagAfter (xferIf s.traceQ (.xfer .r 0x0000#16 0x00#8 [] false) ++ [.busfail c.2.1]))

/-- 41_bringup.md R150: S5R ends the sequence, in `Present` exactly when its exchange succeeds and the byte is 0x04. That
`seq_active` is still 1 in RESP is R28, log 9. -/
def Obligations.IdentityCheck : Prop :=
  ∀ s : State, s.rstCuts 4 = false → ∃ t, exec .s5r s = .next t ∧ s.UsesOneAnswer t ∧
    (s.failsAt 0 4 = false →
      t.bus = s.bus ++ [.exchange [0x00#8, 0x39#8, 0x00#8, 0x00#8] true] ∧
      (s.misoAt 0 3 = 0x04#8 → t.EndsPresent ∧
        t.diagLog = s.diagAfter (xferIf s.traceQ (.xfer .r 0x0039#16 0x00#8 [0x04#8] true))) ∧
      (s.misoAt 0 3 ≠ 0x04#8 → t.EndsAbsent ∧
        t.diagLog = s.diagAfter (xferIf s.traceQ (.xfer .r 0x0039#16 0x00#8 [s.misoAt 0 3] true) ++
          [.mismatch 5 0x04#8 (s.misoAt 0 3) true]))) ∧
    (s.failsAt 0 4 = true → t.EndsAbsent ∧
      (∃ m, t.bus = s.bus ++ [.exchange ([0x00#8, 0x39#8, 0x00#8, 0x00#8].take m) false]) ∧
      t.diagLog = s.diagAfter (xferIf s.traceQ (.xfer .r 0x0039#16 0x00#8 [] false) ++ [.busfail 9#4]))

/-- 41_bringup.md R151, R152: the terminal states answer `{OK, 1, 0}` and `{OK, 0, 0}`, without an exchange or an event;
everything else is as before, `seq_active` too, up to the delivery of the response (10_state.md R28; log 9). -/
def Obligations.TerminalStates : Prop :=
  ∀ s : State,
    exec .present s = .next { s with
      upc := 10#4, fsm := .resp, respValid := true, respStatus := .ok, respPresent := true, respLen := 0#16,
      rdIdx := 0 } ∧
    exec .absent s = .next { s with
      upc := 11#4, fsm := .resp, respValid := true, respStatus := .ok, respPresent := false, respLen := 0#16,
      rdIdx := 0 }

/-- What the micro-steps and the terminal states leave unchanged: the build, the inputs, the host's commands and data, and
what the host has received; and where `rst` does not cut the micro-step short, `busy`, the copy of `trace_en` and the write
buffer, which belongs to the WRITE commands (10_state.md R22, R28, R29). -/
def Obligations.SequencerFrame : Prop :=
  ∀ (s t : State), ∀ i ∈ [Instr.s1w, .s1wait, .s1r, .s2w, .s2r, .s3w, .s3r, .s4w, .s4r, .s5r, .present, .absent],
    exec i s = .next t → s.SameOutside t ∧ t.wdataIn = s.wdataIn ∧
      (s.rstCuts 4 = false → s.rstCutsWait = false → t.busy = s.busy ∧ t.traceQ = s.traceQ ∧ t.wbuf = s.wbuf)

/-- 41_bringup.md R158: from the acceptance of a BRINGUP on, if the host does not reset the block, at most ten steps lead
to the response `{OK, present, 0}` with exactly the present bit of the result formula; `seq_active` is then still 1, until
the response is delivered (10_state.md R28; log 9). That a micro-step is one step is log 7. -/
def Obligations.BringupResultFormula : Prop :=
  ∀ s : State, s.AtBringupStart → s.NoReset →
    ∃ n, n ≤ 10 ∧ ∃ t, runSteps n s = .next t ∧ t.Responds ⟨.ok, s.bringupPresent, 0#16⟩ ∧ t.seqActive = true

/-- 41_bringup.md R159: the frames a BRINGUP sends are the first ones of the nine, as many as the table says; each is
whole but the last one of a failed exchange, of which some whole bytes have gone out (log 4). That a micro-step is one step is
log 7. -/
def Obligations.BringupWireTrace : Prop :=
  ∀ s : State, s.AtBringupStart → s.NoReset →
    ∃ n, n ≤ 10 ∧ ∃ t sent, runSteps n s = .next t ∧ t.fsm = .resp ∧ t.respValid = true ∧
      sentFrames t.bus = sentFrames s.bus ++ sent ∧ sent.length = s.bringupCount ∧
      ∀ j, j < s.bringupCount →
        (∃ m, sent[j]? = bringupFrames[j]?.map (fun f => f.take m)) ∧
        (s.bringupFail j = false → sent[j]? = bringupFrames[j]?)

/-- 41_bringup.md R155, 10_state.md R25: while a BRINGUP runs, a step at whose beginning `rst` is 0 increases `upc` by one
(from 9 to 10 it enters RESP with it), or enters RESP with `upc` at 11, or is the reset of a `rst` that rises in the course of
it; in RESP `upc` stays. That `seq_active` is still 1 in RESP is R28, log 9. -/
def Obligations.UpcOnlyIncreases : Prop :=
  ∀ s t : State, s.Inv → s.seqActive = true → s.pins.rst = false → step s = .next t →
    (s.fsm ≠ .resp →
      (t.seqActive = true ∧ t.upc.toNat = s.upc.toNat + 1 ∧ (t.fsm = .resp ↔ s.upc = 9#4)) ∨
      (t.seqActive = true ∧ t.upc = 11#4 ∧ t.fsm = .resp) ∨
      (s.pins.rstDuring ≠ none ∧ t.Restarted)) ∧
    (s.fsm = .resp → t.upc = s.upc)

/-- 60_exceptions.md R208: no BRINGUP ever answers with a status other than OK: whenever a step of an active sequence leads
to a state in which a response is valid, its status is OK, without data. -/
def Obligations.BringupNeverReportsBusFailure : Prop :=
  ∀ s t : State, s.Inv → s.seqActive = true → step s = .next t → t.respValid = true →
    t.respStatus = .ok ∧ t.respLen = 0#16

/-! ### Responses -/

/-- 30_encoding.md R92: the host that takes what is offered receives the response record and then exactly its data
bytes, byte 0 first, after which the block is idle and no sequence is active; `1 + len` steps suffice. That data is delivered
after the record, one byte a step, is log 10. -/
def Obligations.ResponseAndDataDelivered : Prop :=
  ∀ s : State, s.fsm = .resp → s.respValid = true → s.rdIdx = 0 → s.NoReset → s.HostTakes →
    (s.respLen ≠ 0#16 → s.rbuf.length = s.respLen.toNat) →
    ∃ t, runSteps (1 + s.respLen.toNat) s = .next t ∧ t.fsm = .idle ∧ t.busy = false ∧ t.respValid = false ∧
      t.seqActive = false ∧ t.responses = s.responses ++ [s.response] ∧
      t.rdataOut = s.rdataOut ++ s.rbuf.take s.respLen.toNat ∧ t.bus = s.bus ∧ t.cmdIn = s.cmdIn

/-- 10_state.md R28: `seq_active` and `resp_valid` fall when the response is delivered, and `busy` falls with them unless
read data is still to come (log 10). For a BRINGUP this step is `seq_active <- 0 ; Respond` of 41_bringup.md R140 (log 9). -/
def Obligations.DeliveryEndsSequence : Prop :=
  ∀ s : State, s.pins.rst = false → s.fsm = .resp → s.respValid = true → s.pins.respReady = true →
    ∃ t, step s = .next t ∧ t.seqActive = false ∧ t.respValid = false ∧ t.responses = s.responses ++ [s.response] ∧
      s.SameOperands t ∧ t.rdataOut = s.rdataOut ∧ t.rdIdx = s.rdIdx ∧ t.upc = s.upc ∧ t.rbuf = s.rbuf ∧ t.bus = s.bus ∧
      (s.respLen = 0#16 → t.fsm = .idle ∧ t.busy = false) ∧ (s.respLen ≠ 0#16 → t.fsm = .resp ∧ t.busy = s.busy)

/-- A response the host does not take stays, unchanged, and so does a byte of read data (10_state.md R26, R28 and section 9,
30_encoding.md R92). -/
def Obligations.ResponseHeldUntilTaken : Prop :=
  ∀ s : State, s.pins.rst = false → s.fsm = .resp →
    (s.respValid = true → s.pins.respReady = false → step s = .next s.clearDiag.tickPins) ∧
    (s.respValid = false → s.seqActive = false → s.pins.rdataReady = false → step s = .next s.clearDiag.tickPins)

/-- 30_encoding.md R92: a host that is ready for read data in a step, whatever it is later, receives the next byte in it, and
nothing else of the READ's result changes; the last byte ends the command (that `busy` lasts until then and that a step
delivers one byte is log 10). -/
def Obligations.DataByteDelivered : Prop :=
  ∀ (s : State) (b : Byte), s.pins.rst = false → s.fsm = .resp → s.respValid = false → s.seqActive = false →
    s.pins.rdataReady = true → s.rbuf[s.rdIdx]? = some b →
    ∃ t, step s = .next t ∧ t.rdataOut = s.rdataOut ++ [b] ∧ t.rdIdx = s.rdIdx + 1 ∧ t.rbuf = s.rbuf ∧
      t.response = s.response ∧ t.respValid = false ∧ t.seqActive = false ∧ t.responses = s.responses ∧
      s.SameOperands t ∧ t.bus = s.bus ∧ t.ch = s.ch ∧ t.answers = s.answers ∧ t.cmdIn = s.cmdIn ∧
      t.wdataIn = s.wdataIn ∧ t.diagLog = s.diagLog ∧
      (s.rdIdx + 1 < s.respLen.toNat → t.fsm = .resp ∧ t.busy = s.busy) ∧
      (s.respLen.toNat ≤ s.rdIdx + 1 → t.fsm = .idle ∧ t.busy = false)

/-- 10_state.md R21, R29: from acceptance to the end of the command, through LOAD, the exchange, RESP and the delivery, the
operand latches and the copy of `trace_en` keep their values (`rst` may rise in the course of the step: log 15). Only the
micro-steps of a BRINGUP load the latches anew: whenever one leads to the exchange of the next, they hold the constants of
the table for that one (30_encoding.md R93; that they are loaded in the step before the exchange is log 8). -/
def Obligations.OperandsHeldUntilDelivery : Prop :=
  (∀ s t : State, s.Inv → s.pins.rst = false → s.fsm ≠ .idle → (s.seqActive = false ∨ s.fsm = .resp) → step s = .next t →
    s.SameOperands t ∨ (s.pins.rstDuring ≠ none ∧ t.Restarted)) ∧
  (∀ s t : State, ∀ i ∈ [Instr.s1w, .s1wait, .s1r, .s2w, .s2r, .s3w, .s3r, .s4w, .s4r, .s5r],
    exec i s = .next t → t.fsm = .xfer →
    ∃ c ∈ [(2#4, 0x01#8, 0x0000#16, 0x00#8), (3#4, 0x02#8, 0x0000#16, 0x04#8), (4#4, 0x01#8, 0x0000#16, 0x00#8),
           (5#4, 0x02#8, 0x0000#16, 0x04#8), (6#4, 0x01#8, 0x0000#16, 0x00#8), (7#4, 0x02#8, 0x0000#16, 0x04#8),
           (8#4, 0x01#8, 0x0000#16, 0x00#8), (9#4, 0x01#8, 0x0039#16, 0x00#8)],
      t.upc = c.1 ∧ t.Latched c.2.1 c.2.2.1 c.2.2.2 1#16)

/-! ### Invariant, reset, observers -/

/-- Every step keeps the invariant. Its clauses on XFER, on RESP with data and on the bit counter rest on logs 8, 10
and 26. -/
def Obligations.EveryStepKeepsInvariant : Prop :=
  ∀ s t : State, s.Inv → step s = .next t → t.Inv

/-- The state after reset has the invariant. -/
def Obligations.ResetHasInvariant : Prop := State.reset.Inv

/-- No state with the invariant stops: the block always goes on (70_reset_and_hazards.md R244, 60_exceptions.md R206). -/
def Obligations.NoStopUnderInvariant : Prop := ∀ s : State, s.Inv → ∃ t, step s = .next t

/-- A step stops the machine at most at a value of `upc` the spec says is never taken (10_state.md R25; log 17), and it
refuses nothing. -/
def Obligations.StopsOnlyAtUpcNeverTaken : Prop :=
  ∀ s : State, (∀ f, step s = .fault f → f = .upcNeverTaken ∧ 12 ≤ s.upc.toNat) ∧ ∀ r, step s ≠ .refused r

/-- 70_reset_and_hazards.md R244: every command in progress ends: if the host does not reset the block, takes what is
offered and, for a WRITE in LOAD, offers the data that is missing, the block is idle again after at most the ten
micro-steps and one step for each response record and data byte. The count of steps is the model's (logs 7 and 22). -/
def Obligations.EveryCommandEnds : Prop :=
  ∀ s : State, s.Inv → s.NoReset → s.HostTakes → s.fsm ≠ .idle →
    (s.fsm = .load → s.pins.wdataValid = true ∧ s.wdataMissing ≤ s.wdataIn.length) →
    ∃ n, n ≤ 11 + s.respLen.toNat ∧ ∃ t, runSteps n s = .next t ∧ t.fsm = .idle ∧ t.busy = false

/-- 10_state.md R35: the values the spec gives for the state after reset. -/
def Obligations.ResetValues : Prop :=
  State.reset.fsm = .idle ∧ State.reset.seqActive = false ∧ State.reset.busy = false ∧
  State.reset.respValid = false ∧ State.reset.idx = 0#17 ∧ State.reset.upc = 0#4 ∧ State.reset.waitCnt = 0 ∧
  State.reset.ch.cs = false ∧ State.reset.ch.sclk = false ∧ State.reset.ch.mosi = false ∧
  State.reset.diagPort = none ∧ State.reset.cmdReady = true ∧ State.reset.csN = true

/-- 00_scope.md R6: the bounds of MAXLEN in the build at hand. -/
def Obligations.MaxLenWithinBounds : Prop :=
  255 ≤ State.reset.cfg.maxLen ∧ State.reset.cfg.maxLen ≤ 65535

/-- 70_reset_and_hazards.md R230, 10_state.md R26: the block does nothing of its own: a step of an idle block to which no
command is presented changes nothing but that an event on the diagnostic port is gone and the input pins take their next
levels; and without a command the state after reset leads back to itself. -/
def Obligations.BlockRestsAfterReset : Prop :=
  (∀ s : State, s.pins.rst = false → s.fsm = .idle → (s.pins.cmdValid = false ∨ s.cmdIn = []) →
    step s = .next s.clearDiag.tickPins) ∧
  step State.reset = .next State.reset

/-- 70_reset_and_hazards.md R231: `rst` abandons a command in progress at once: chip-select released, no response, the
values of R35; a frame in mid-air is cut short where it is. -/
def Obligations.ResetAbandonsCommand : Prop :=
  ∀ s : State, s.pins.rst = true → ∃ t, step s = .next t ∧ t.Restarted ∧ s.SameHost t ∧ t.wdataIn = s.wdataIn ∧
    (s.ch.cs = true → t.bus = s.bus ++ [.truncated s.sent []] ∧ s.UsesOneAnswer t) ∧
    (s.ch.cs = false → t.bus = s.bus ∧ t.answers = s.answers ∧ t.exchNo = s.exchNo)

/-- 70_reset_and_hazards.md R231: `rst` cuts a READ's exchange at any bit of its frame: exactly that much of the frame has
gone out, no response comes, nothing is saved, and the block takes the values of R35. When `rst` rises is an input, counted in
`sclk` pulses (log 15). -/
def Obligations.ResetCutsRead : Prop :=
  ∀ (s : State) (addr : Half) (ctrl : Byte) (len : Half) (n : Nat), len.toNat ≤ s.cfg.maxLen →
    s.pins.rstDuring = some n → s.rstCuts (3 + len.toNat) = true →
    ∃ t, exec (.read addr ctrl len) s = .next t ∧ s.CutShort t (readFrame addr ctrl len.toNat) n ∧
      t.wdataIn = s.wdataIn

/-- 70_reset_and_hazards.md R231: the same for a WRITE whose data is on offer; its data has been taken (log 15, log 19). -/
def Obligations.ResetCutsWrite : Prop :=
  ∀ (s : State) (addr : Half) (ctrl : Byte) (len : Half) (data rest : List Byte) (n : Nat), len.toNat ≤ s.cfg.maxLen →
    s.pins.wdataValid = true → s.wdataIn = data ++ rest → data.length = len.toNat →
    s.pins.rstDuring = some n → s.rstCuts (3 + len.toNat) = true →
    ∃ t, exec (.write addr ctrl len) s = .next t ∧ s.CutShort t (writeFrame addr ctrl data) n ∧ t.wdataIn = rest

/-- 70_reset_and_hazards.md R231: the same for a WRITE that has waited in LOAD (log 15, log 19). -/
def Obligations.ResetCutsLoad : Prop :=
  ∀ (s : State) (more rest : List Byte) (n : Nat), s.pins.rst = false → s.fsm = .load → s.opQ = 0x02#8 →
    s.seqActive = false → s.pins.wdataValid = true → s.wdataIn = more ++ rest →
    s.wbuf.length + more.length = s.lenQ.toNat → s.pins.rstDuring = some n → s.rstCuts (3 + s.lenQ.toNat) = true →
    ∃ t, step s = .next t ∧ s.CutShort t (writeFrame s.addrQ s.ctrlQ (s.wbuf ++ more)) n ∧ t.wdataIn = rest

/-- 70_reset_and_hazards.md R231: `rst` cuts the exchange of a micro-step in the same way, and the BRINGUP is over without a
response (log 15). -/
def Obligations.ResetCutsMicroSteps : Prop :=
  ∀ (s : State) (n : Nat), s.pins.rstDuring = some n → s.rstCuts 4 = true →
    ∀ c ∈ [Instr.s1w, .s1r, .s2w, .s2r, .s3w, .s3r, .s4w, .s4r, .s5r].zip bringupFrames,
      ∃ t, exec c.1 s = .next t ∧ s.CutShort t c.2 n ∧ t.wdataIn = s.wdataIn

/-- 70_reset_and_hazards.md R231: `rst` ends the reset wait at any of its cycles: no exchange, no response, the values of
R35. When `rst` rises is an input, counted in `clk` cycles (log 15). -/
def Obligations.ResetCutsWait : Prop :=
  ∀ (s : State) (n : Nat), s.pins.rstDuring = some n → n < s.cfg.waitCycles →
    ∃ t, exec .s1wait s = .next t ∧ t.Restarted ∧ s.SameHost t ∧ t.wdataIn = s.wdataIn ∧ t.bus = s.bus ∧
      t.answers = s.answers ∧ t.exchNo = s.exchNo ∧ t.ch.pulses = s.ch.pulses

/-- 40_transport.md R114, 60_exceptions.md R212: the diagnostic trace alters nothing: a step of a block with trace and
the step of the same block without diagnostic port lead to states that differ in diagnostics only. -/
def Obligations.TraceAltersNothing : Prop :=
  ∀ s : State, nextMap State.eraseDiag (step s) = nextMap State.eraseDiag (step s.eraseDiag)

/-- 10_state.md R20: what a command leads to depends on its operands, the inputs and the oracle alone, on nothing an
earlier command has left behind. -/
def Obligations.OutcomeForgetsPast : Prop :=
  ∀ (s : State) (addr : Half) (ctrl : Byte) (len : Half), s.respValid = false →
    ∀ i ∈ [Instr.read addr ctrl len, .write addr ctrl len, .bringup, .wrGar, .wrSubr, .wrShar, .wrSipr, .rdMr, .wrMr,
           .rdVersionr],
      nextMap State.outlook (exec i s) = nextMap State.outlook (exec i s.forgetPast)
end

