-- ==== Sys2Proof/Laws/State.lean ====
section
/-! SUPPORT. What each record update of the model does to each field of State, one lemma a field: later proofs do not
unfold an update. -/

namespace Sys2Proof.Machine

open Sys2Proof

/-! ### `accept` -/

@[simp] theorem State.accept_cfg (s : State) : (s.accept).cfg = s.cfg := rfl
@[simp] theorem State.accept_pins (s : State) : (s.accept).pins = s.pins := rfl
@[simp] theorem State.accept_pinScript (s : State) : (s.accept).pinScript = s.pinScript := rfl
@[simp] theorem State.accept_cmdIn (s : State) : (s.accept).cmdIn = s.cmdIn := rfl
@[simp] theorem State.accept_wdataIn (s : State) : (s.accept).wdataIn = s.wdataIn := rfl
@[simp] theorem State.accept_answers (s : State) : (s.accept).answers = s.answers := rfl
@[simp] theorem State.accept_exchNo (s : State) : (s.accept).exchNo = s.exchNo := rfl
@[simp] theorem State.accept_fsm (s : State) : (s.accept).fsm = s.fsm := rfl
@[simp] theorem State.accept_seqActive (s : State) : (s.accept).seqActive = false := rfl
@[simp] theorem State.accept_busy (s : State) : (s.accept).busy = true := rfl
@[simp] theorem State.accept_opQ (s : State) : (s.accept).opQ = s.opQ := rfl
@[simp] theorem State.accept_addrQ (s : State) : (s.accept).addrQ = s.addrQ := rfl
@[simp] theorem State.accept_ctrlQ (s : State) : (s.accept).ctrlQ = s.ctrlQ := rfl
@[simp] theorem State.accept_lenQ (s : State) : (s.accept).lenQ = s.lenQ := rfl
@[simp] theorem State.accept_traceQ (s : State) : (s.accept).traceQ = s.pins.traceEn := rfl
@[simp] theorem State.accept_wbuf (s : State) : (s.accept).wbuf = s.wbuf := rfl
@[simp] theorem State.accept_rbuf (s : State) : (s.accept).rbuf = s.rbuf := rfl
@[simp] theorem State.accept_idx (s : State) : (s.accept).idx = s.idx := rfl
@[simp] theorem State.accept_upc (s : State) : (s.accept).upc = s.upc := rfl
@[simp] theorem State.accept_waitCnt (s : State) : (s.accept).waitCnt = s.waitCnt := rfl
@[simp] theorem State.accept_failSeen (s : State) : (s.accept).failSeen = s.failSeen := rfl
@[simp] theorem State.accept_ch (s : State) : (s.accept).ch = s.ch := rfl
@[simp] theorem State.accept_respValid (s : State) : (s.accept).respValid = s.respValid := rfl
@[simp] theorem State.accept_respStatus (s : State) : (s.accept).respStatus = s.respStatus := rfl
@[simp] theorem State.accept_respPresent (s : State) : (s.accept).respPresent = s.respPresent := rfl
@[simp] theorem State.accept_respLen (s : State) : (s.accept).respLen = s.respLen := rfl
@[simp] theorem State.accept_rdIdx (s : State) : (s.accept).rdIdx = s.rdIdx := rfl
@[simp] theorem State.accept_diagPort (s : State) : (s.accept).diagPort = s.diagPort := rfl
@[simp] theorem State.accept_sent (s : State) : (s.accept).sent = s.sent := rfl
@[simp] theorem State.accept_bus (s : State) : (s.accept).bus = s.bus := rfl
@[simp] theorem State.accept_responses (s : State) : (s.accept).responses = s.responses := rfl
@[simp] theorem State.accept_rdataOut (s : State) : (s.accept).rdataOut = s.rdataOut := rfl
@[simp] theorem State.accept_diagLog (s : State) : (s.accept).diagLog = s.diagLog := rfl

/-! ### `latch` -/

@[simp] theorem State.latch_cfg (s : State) (op : Byte) (a : Half) (c : Byte) (l : Half) : (s.latch op a c l).cfg = s.cfg := rfl
@[simp] theorem State.latch_pins (s : State) (op : Byte) (a : Half) (c : Byte) (l : Half) : (s.latch op a c l).pins = s.pins := rfl
@[simp] theorem State.latch_pinScript (s : State) (op : Byte) (a : Half) (c : Byte) (l : Half) : (s.latch op a c l).pinScript = s.pinScript := rfl
@[simp] theorem State.latch_cmdIn (s : State) (op : Byte) (a : Half) (c : Byte) (l : Half) : (s.latch op a c l).cmdIn = s.cmdIn := rfl
@[simp] theorem State.latch_wdataIn (s : State) (op : Byte) (a : Half) (c : Byte) (l : Half) : (s.latch op a c l).wdataIn = s.wdataIn := rfl
@[simp] theorem State.latch_answers (s : State) (op : Byte) (a : Half) (c : Byte) (l : Half) : (s.latch op a c l).answers = s.answers := rfl
@[simp] theorem State.latch_exchNo (s : State) (op : Byte) (a : Half) (c : Byte) (l : Half) : (s.latch op a c l).exchNo = s.exchNo := rfl
@[simp] theorem State.latch_fsm (s : State) (op : Byte) (a : Half) (c : Byte) (l : Half) : (s.latch op a c l).fsm = s.fsm := rfl
@[simp] theorem State.latch_seqActive (s : State) (op : Byte) (a : Half) (c : Byte) (l : Half) : (s.latch op a c l).seqActive = s.seqActive := rfl
@[simp] theorem State.latch_busy (s : State) (op : Byte) (a : Half) (c : Byte) (l : Half) : (s.latch op a c l).busy = s.busy := rfl
@[simp] theorem State.latch_opQ (s : State) (op : Byte) (a : Half) (c : Byte) (l : Half) : (s.latch op a c l).opQ = op := rfl
@[simp] theorem State.latch_addrQ (s : State) (op : Byte) (a : Half) (c : Byte) (l : Half) : (s.latch op a c l).addrQ = a := rfl
@[simp] theorem State.latch_ctrlQ (s : State) (op : Byte) (a : Half) (c : Byte) (l : Half) : (s.latch op a c l).ctrlQ = c := rfl
@[simp] theorem State.latch_lenQ (s : State) (op : Byte) (a : Half) (c : Byte) (l : Half) : (s.latch op a c l).lenQ = l := rfl
@[simp] theorem State.latch_traceQ (s : State) (op : Byte) (a : Half) (c : Byte) (l : Half) : (s.latch op a c l).traceQ = s.traceQ := rfl
@[simp] theorem State.latch_wbuf (s : State) (op : Byte) (a : Half) (c : Byte) (l : Half) : (s.latch op a c l).wbuf = s.wbuf := rfl
@[simp] theorem State.latch_rbuf (s : State) (op : Byte) (a : Half) (c : Byte) (l : Half) : (s.latch op a c l).rbuf = s.rbuf := rfl
@[simp] theorem State.latch_idx (s : State) (op : Byte) (a : Half) (c : Byte) (l : Half) : (s.latch op a c l).idx = s.idx := rfl
@[simp] theorem State.latch_upc (s : State) (op : Byte) (a : Half) (c : Byte) (l : Half) : (s.latch op a c l).upc = s.upc := rfl
@[simp] theorem State.latch_waitCnt (s : State) (op : Byte) (a : Half) (c : Byte) (l : Half) : (s.latch op a c l).waitCnt = s.waitCnt := rfl
@[simp] theorem State.latch_failSeen (s : State) (op : Byte) (a : Half) (c : Byte) (l : Half) : (s.latch op a c l).failSeen = s.failSeen := rfl
@[simp] theorem State.latch_ch (s : State) (op : Byte) (a : Half) (c : Byte) (l : Half) : (s.latch op a c l).ch = s.ch := rfl
@[simp] theorem State.latch_respValid (s : State) (op : Byte) (a : Half) (c : Byte) (l : Half) : (s.latch op a c l).respValid = s.respValid := rfl
@[simp] theorem State.latch_respStatus (s : State) (op : Byte) (a : Half) (c : Byte) (l : Half) : (s.latch op a c l).respStatus = s.respStatus := rfl
@[simp] theorem State.latch_respPresent (s : State) (op : Byte) (a : Half) (c : Byte) (l : Half) : (s.latch op a c l).respPresent = s.respPresent := rfl
@[simp] theorem State.latch_respLen (s : State) (op : Byte) (a : Half) (c : Byte) (l : Half) : (s.latch op a c l).respLen = s.respLen := rfl
@[simp] theorem State.latch_rdIdx (s : State) (op : Byte) (a : Half) (c : Byte) (l : Half) : (s.latch op a c l).rdIdx = s.rdIdx := rfl
@[simp] theorem State.latch_diagPort (s : State) (op : Byte) (a : Half) (c : Byte) (l : Half) : (s.latch op a c l).diagPort = s.diagPort := rfl
@[simp] theorem State.latch_sent (s : State) (op : Byte) (a : Half) (c : Byte) (l : Half) : (s.latch op a c l).sent = s.sent := rfl
@[simp] theorem State.latch_bus (s : State) (op : Byte) (a : Half) (c : Byte) (l : Half) : (s.latch op a c l).bus = s.bus := rfl
@[simp] theorem State.latch_responses (s : State) (op : Byte) (a : Half) (c : Byte) (l : Half) : (s.latch op a c l).responses = s.responses := rfl
@[simp] theorem State.latch_rdataOut (s : State) (op : Byte) (a : Half) (c : Byte) (l : Half) : (s.latch op a c l).rdataOut = s.rdataOut := rfl
@[simp] theorem State.latch_diagLog (s : State) (op : Byte) (a : Half) (c : Byte) (l : Half) : (s.latch op a c l).diagLog = s.diagLog := rfl

/-! ### `atMicroStep` -/

@[simp] theorem State.atMicroStep_cfg (s : State) (k : Upc) : (s.atMicroStep k).cfg = s.cfg := rfl
@[simp] theorem State.atMicroStep_pins (s : State) (k : Upc) : (s.atMicroStep k).pins = s.pins := rfl
@[simp] theorem State.atMicroStep_pinScript (s : State) (k : Upc) : (s.atMicroStep k).pinScript = s.pinScript := rfl
@[simp] theorem State.atMicroStep_cmdIn (s : State) (k : Upc) : (s.atMicroStep k).cmdIn = s.cmdIn := rfl
@[simp] theorem State.atMicroStep_wdataIn (s : State) (k : Upc) : (s.atMicroStep k).wdataIn = s.wdataIn := rfl
@[simp] theorem State.atMicroStep_answers (s : State) (k : Upc) : (s.atMicroStep k).answers = s.answers := rfl
@[simp] theorem State.atMicroStep_exchNo (s : State) (k : Upc) : (s.atMicroStep k).exchNo = s.exchNo := rfl
@[simp] theorem State.atMicroStep_fsm (s : State) (k : Upc) : (s.atMicroStep k).fsm = s.fsm := rfl
@[simp] theorem State.atMicroStep_seqActive (s : State) (k : Upc) : (s.atMicroStep k).seqActive = true := rfl
@[simp] theorem State.atMicroStep_busy (s : State) (k : Upc) : (s.atMicroStep k).busy = s.busy := rfl
@[simp] theorem State.atMicroStep_opQ (s : State) (k : Upc) : (s.atMicroStep k).opQ = s.opQ := rfl
@[simp] theorem State.atMicroStep_addrQ (s : State) (k : Upc) : (s.atMicroStep k).addrQ = s.addrQ := rfl
@[simp] theorem State.atMicroStep_ctrlQ (s : State) (k : Upc) : (s.atMicroStep k).ctrlQ = s.ctrlQ := rfl
@[simp] theorem State.atMicroStep_lenQ (s : State) (k : Upc) : (s.atMicroStep k).lenQ = s.lenQ := rfl
@[simp] theorem State.atMicroStep_traceQ (s : State) (k : Upc) : (s.atMicroStep k).traceQ = s.traceQ := rfl
@[simp] theorem State.atMicroStep_wbuf (s : State) (k : Upc) : (s.atMicroStep k).wbuf = s.wbuf := rfl
@[simp] theorem State.atMicroStep_rbuf (s : State) (k : Upc) : (s.atMicroStep k).rbuf = s.rbuf := rfl
@[simp] theorem State.atMicroStep_idx (s : State) (k : Upc) : (s.atMicroStep k).idx = s.idx := rfl
@[simp] theorem State.atMicroStep_upc (s : State) (k : Upc) : (s.atMicroStep k).upc = k := rfl
@[simp] theorem State.atMicroStep_waitCnt (s : State) (k : Upc) : (s.atMicroStep k).waitCnt = s.waitCnt := rfl
@[simp] theorem State.atMicroStep_failSeen (s : State) (k : Upc) : (s.atMicroStep k).failSeen = s.failSeen := rfl
@[simp] theorem State.atMicroStep_ch (s : State) (k : Upc) : (s.atMicroStep k).ch = s.ch := rfl
@[simp] theorem State.atMicroStep_respValid (s : State) (k : Upc) : (s.atMicroStep k).respValid = s.respValid := rfl
@[simp] theorem State.atMicroStep_respStatus (s : State) (k : Upc) : (s.atMicroStep k).respStatus = s.respStatus := rfl
@[simp] theorem State.atMicroStep_respPresent (s : State) (k : Upc) : (s.atMicroStep k).respPresent = s.respPresent := rfl
@[simp] theorem State.atMicroStep_respLen (s : State) (k : Upc) : (s.atMicroStep k).respLen = s.respLen := rfl
@[simp] theorem State.atMicroStep_rdIdx (s : State) (k : Upc) : (s.atMicroStep k).rdIdx = s.rdIdx := rfl
@[simp] theorem State.atMicroStep_diagPort (s : State) (k : Upc) : (s.atMicroStep k).diagPort = s.diagPort := rfl
@[simp] theorem State.atMicroStep_sent (s : State) (k : Upc) : (s.atMicroStep k).sent = s.sent := rfl
@[simp] theorem State.atMicroStep_bus (s : State) (k : Upc) : (s.atMicroStep k).bus = s.bus := rfl
@[simp] theorem State.atMicroStep_responses (s : State) (k : Upc) : (s.atMicroStep k).responses = s.responses := rfl
@[simp] theorem State.atMicroStep_rdataOut (s : State) (k : Upc) : (s.atMicroStep k).rdataOut = s.rdataOut := rfl
@[simp] theorem State.atMicroStep_diagLog (s : State) (k : Upc) : (s.atMicroStep k).diagLog = s.diagLog := rfl

/-! ### `enterLoad` -/

@[simp] theorem State.enterLoad_cfg (s : State) : (s.enterLoad).cfg = s.cfg := rfl
@[simp] theorem State.enterLoad_pins (s : State) : (s.enterLoad).pins = s.pins := rfl
@[simp] theorem State.enterLoad_pinScript (s : State) : (s.enterLoad).pinScript = s.pinScript := rfl
@[simp] theorem State.enterLoad_cmdIn (s : State) : (s.enterLoad).cmdIn = s.cmdIn := rfl
@[simp] theorem State.enterLoad_wdataIn (s : State) : (s.enterLoad).wdataIn = s.wdataIn := rfl
@[simp] theorem State.enterLoad_answers (s : State) : (s.enterLoad).answers = s.answers := rfl
@[simp] theorem State.enterLoad_exchNo (s : State) : (s.enterLoad).exchNo = s.exchNo := rfl
@[simp] theorem State.enterLoad_fsm (s : State) : (s.enterLoad).fsm = .load := rfl
@[simp] theorem State.enterLoad_seqActive (s : State) : (s.enterLoad).seqActive = s.seqActive := rfl
@[simp] theorem State.enterLoad_busy (s : State) : (s.enterLoad).busy = s.busy := rfl
@[simp] theorem State.enterLoad_opQ (s : State) : (s.enterLoad).opQ = s.opQ := rfl
@[simp] theorem State.enterLoad_addrQ (s : State) : (s.enterLoad).addrQ = s.addrQ := rfl
@[simp] theorem State.enterLoad_ctrlQ (s : State) : (s.enterLoad).ctrlQ = s.ctrlQ := rfl
@[simp] theorem State.enterLoad_lenQ (s : State) : (s.enterLoad).lenQ = s.lenQ := rfl
@[simp] theorem State.enterLoad_traceQ (s : State) : (s.enterLoad).traceQ = s.traceQ := rfl
@[simp] theorem State.enterLoad_wbuf (s : State) : (s.enterLoad).wbuf = [] := rfl
@[simp] theorem State.enterLoad_rbuf (s : State) : (s.enterLoad).rbuf = s.rbuf := rfl
@[simp] theorem State.enterLoad_idx (s : State) : (s.enterLoad).idx = s.idx := rfl
@[simp] theorem State.enterLoad_upc (s : State) : (s.enterLoad).upc = s.upc := rfl
@[simp] theorem State.enterLoad_waitCnt (s : State) : (s.enterLoad).waitCnt = s.waitCnt := rfl
@[simp] theorem State.enterLoad_failSeen (s : State) : (s.enterLoad).failSeen = s.failSeen := rfl
@[simp] theorem State.enterLoad_ch (s : State) : (s.enterLoad).ch = s.ch := rfl
@[simp] theorem State.enterLoad_respValid (s : State) : (s.enterLoad).respValid = s.respValid := rfl
@[simp] theorem State.enterLoad_respStatus (s : State) : (s.enterLoad).respStatus = s.respStatus := rfl
@[simp] theorem State.enterLoad_respPresent (s : State) : (s.enterLoad).respPresent = s.respPresent := rfl
@[simp] theorem State.enterLoad_respLen (s : State) : (s.enterLoad).respLen = s.respLen := rfl
@[simp] theorem State.enterLoad_rdIdx (s : State) : (s.enterLoad).rdIdx = s.rdIdx := rfl
@[simp] theorem State.enterLoad_diagPort (s : State) : (s.enterLoad).diagPort = s.diagPort := rfl
@[simp] theorem State.enterLoad_sent (s : State) : (s.enterLoad).sent = s.sent := rfl
@[simp] theorem State.enterLoad_bus (s : State) : (s.enterLoad).bus = s.bus := rfl
@[simp] theorem State.enterLoad_responses (s : State) : (s.enterLoad).responses = s.responses := rfl
@[simp] theorem State.enterLoad_rdataOut (s : State) : (s.enterLoad).rdataOut = s.rdataOut := rfl
@[simp] theorem State.enterLoad_diagLog (s : State) : (s.enterLoad).diagLog = s.diagLog := rfl

/-! ### `collect` -/

@[simp] theorem State.collect_cfg (s : State) : (s.collect).cfg = s.cfg := rfl
@[simp] theorem State.collect_pins (s : State) : (s.collect).pins = s.pins := rfl
@[simp] theorem State.collect_pinScript (s : State) : (s.collect).pinScript = s.pinScript := rfl
@[simp] theorem State.collect_cmdIn (s : State) : (s.collect).cmdIn = s.cmdIn := rfl
@[simp] theorem State.collect_wdataIn (s : State) : (s.collect).wdataIn = s.wdataIn.drop (min s.wdataOffered.length s.wdataMissing) := rfl
@[simp] theorem State.collect_answers (s : State) : (s.collect).answers = s.answers := rfl
@[simp] theorem State.collect_exchNo (s : State) : (s.collect).exchNo = s.exchNo := rfl
@[simp] theorem State.collect_fsm (s : State) : (s.collect).fsm = s.fsm := rfl
@[simp] theorem State.collect_seqActive (s : State) : (s.collect).seqActive = s.seqActive := rfl
@[simp] theorem State.collect_busy (s : State) : (s.collect).busy = s.busy := rfl
@[simp] theorem State.collect_opQ (s : State) : (s.collect).opQ = s.opQ := rfl
@[simp] theorem State.collect_addrQ (s : State) : (s.collect).addrQ = s.addrQ := rfl
@[simp] theorem State.collect_ctrlQ (s : State) : (s.collect).ctrlQ = s.ctrlQ := rfl
@[simp] theorem State.collect_lenQ (s : State) : (s.collect).lenQ = s.lenQ := rfl
@[simp] theorem State.collect_traceQ (s : State) : (s.collect).traceQ = s.traceQ := rfl
@[simp] theorem State.collect_wbuf (s : State) : (s.collect).wbuf = s.wbuf ++ s.wdataOffered.take s.wdataMissing := rfl
@[simp] theorem State.collect_rbuf (s : State) : (s.collect).rbuf = s.rbuf := rfl
@[simp] theorem State.collect_idx (s : State) : (s.collect).idx = s.idx := rfl
@[simp] theorem State.collect_upc (s : State) : (s.collect).upc = s.upc := rfl
@[simp] theorem State.collect_waitCnt (s : State) : (s.collect).waitCnt = s.waitCnt := rfl
@[simp] theorem State.collect_failSeen (s : State) : (s.collect).failSeen = s.failSeen := rfl
@[simp] theorem State.collect_ch (s : State) : (s.collect).ch = s.ch := rfl
@[simp] theorem State.collect_respValid (s : State) : (s.collect).respValid = s.respValid := rfl
@[simp] theorem State.collect_respStatus (s : State) : (s.collect).respStatus = s.respStatus := rfl
@[simp] theorem State.collect_respPresent (s : State) : (s.collect).respPresent = s.respPresent := rfl
@[simp] theorem State.collect_respLen (s : State) : (s.collect).respLen = s.respLen := rfl
@[simp] theorem State.collect_rdIdx (s : State) : (s.collect).rdIdx = s.rdIdx := rfl
@[simp] theorem State.collect_diagPort (s : State) : (s.collect).diagPort = s.diagPort := rfl
@[simp] theorem State.collect_sent (s : State) : (s.collect).sent = s.sent := rfl
@[simp] theorem State.collect_bus (s : State) : (s.collect).bus = s.bus := rfl
@[simp] theorem State.collect_responses (s : State) : (s.collect).responses = s.responses := rfl
@[simp] theorem State.collect_rdataOut (s : State) : (s.collect).rdataOut = s.rdataOut := rfl
@[simp] theorem State.collect_diagLog (s : State) : (s.collect).diagLog = s.diagLog := rfl

/-! ### `beginExchange` -/

@[simp] theorem State.beginExchange_cfg (s : State) : (s.beginExchange).cfg = s.cfg := rfl
@[simp] theorem State.beginExchange_pins (s : State) : (s.beginExchange).pins = s.pins := rfl
@[simp] theorem State.beginExchange_pinScript (s : State) : (s.beginExchange).pinScript = s.pinScript := rfl
@[simp] theorem State.beginExchange_cmdIn (s : State) : (s.beginExchange).cmdIn = s.cmdIn := rfl
@[simp] theorem State.beginExchange_wdataIn (s : State) : (s.beginExchange).wdataIn = s.wdataIn := rfl
@[simp] theorem State.beginExchange_answers (s : State) : (s.beginExchange).answers = s.answers := rfl
@[simp] theorem State.beginExchange_exchNo (s : State) : (s.beginExchange).exchNo = s.exchNo := rfl
@[simp] theorem State.beginExchange_fsm (s : State) : (s.beginExchange).fsm = .xfer := rfl
@[simp] theorem State.beginExchange_seqActive (s : State) : (s.beginExchange).seqActive = s.seqActive := rfl
@[simp] theorem State.beginExchange_busy (s : State) : (s.beginExchange).busy = s.busy := rfl
@[simp] theorem State.beginExchange_opQ (s : State) : (s.beginExchange).opQ = s.opQ := rfl
@[simp] theorem State.beginExchange_addrQ (s : State) : (s.beginExchange).addrQ = s.addrQ := rfl
@[simp] theorem State.beginExchange_ctrlQ (s : State) : (s.beginExchange).ctrlQ = s.ctrlQ := rfl
@[simp] theorem State.beginExchange_lenQ (s : State) : (s.beginExchange).lenQ = s.lenQ := rfl
@[simp] theorem State.beginExchange_traceQ (s : State) : (s.beginExchange).traceQ = s.traceQ := rfl
@[simp] theorem State.beginExchange_wbuf (s : State) : (s.beginExchange).wbuf = s.wbuf := rfl
@[simp] theorem State.beginExchange_rbuf (s : State) : (s.beginExchange).rbuf = [] := rfl
@[simp] theorem State.beginExchange_idx (s : State) : (s.beginExchange).idx = 0#17 := rfl
@[simp] theorem State.beginExchange_upc (s : State) : (s.beginExchange).upc = s.upc := rfl
@[simp] theorem State.beginExchange_waitCnt (s : State) : (s.beginExchange).waitCnt = s.waitCnt := rfl
@[simp] theorem State.beginExchange_failSeen (s : State) : (s.beginExchange).failSeen = false := rfl
@[simp] theorem State.beginExchange_ch (s : State) : (s.beginExchange).ch = { s.ch with cs := true } := rfl
@[simp] theorem State.beginExchange_respValid (s : State) : (s.beginExchange).respValid = s.respValid := rfl
@[simp] theorem State.beginExchange_respStatus (s : State) : (s.beginExchange).respStatus = s.respStatus := rfl
@[simp] theorem State.beginExchange_respPresent (s : State) : (s.beginExchange).respPresent = s.respPresent := rfl
@[simp] theorem State.beginExchange_respLen (s : State) : (s.beginExchange).respLen = s.respLen := rfl
@[simp] theorem State.beginExchange_rdIdx (s : State) : (s.beginExchange).rdIdx = s.rdIdx := rfl
@[simp] theorem State.beginExchange_diagPort (s : State) : (s.beginExchange).diagPort = s.diagPort := rfl
@[simp] theorem State.beginExchange_sent (s : State) : (s.beginExchange).sent = [] := rfl
@[simp] theorem State.beginExchange_bus (s : State) : (s.beginExchange).bus = s.bus := rfl
@[simp] theorem State.beginExchange_responses (s : State) : (s.beginExchange).responses = s.responses := rfl
@[simp] theorem State.beginExchange_rdataOut (s : State) : (s.beginExchange).rdataOut = s.rdataOut := rfl
@[simp] theorem State.beginExchange_diagLog (s : State) : (s.beginExchange).diagLog = s.diagLog := rfl

/-! ### `sampleFail` -/

@[simp] theorem State.sampleFail_cfg (s : State) : (s.sampleFail).cfg = s.cfg := rfl
@[simp] theorem State.sampleFail_pins (s : State) : (s.sampleFail).pins = s.pins := rfl
@[simp] theorem State.sampleFail_pinScript (s : State) : (s.sampleFail).pinScript = s.pinScript := rfl
@[simp] theorem State.sampleFail_cmdIn (s : State) : (s.sampleFail).cmdIn = s.cmdIn := rfl
@[simp] theorem State.sampleFail_wdataIn (s : State) : (s.sampleFail).wdataIn = s.wdataIn := rfl
@[simp] theorem State.sampleFail_answers (s : State) : (s.sampleFail).answers = s.answers := rfl
@[simp] theorem State.sampleFail_exchNo (s : State) : (s.sampleFail).exchNo = s.exchNo := rfl
@[simp] theorem State.sampleFail_fsm (s : State) : (s.sampleFail).fsm = s.fsm := rfl
@[simp] theorem State.sampleFail_seqActive (s : State) : (s.sampleFail).seqActive = s.seqActive := rfl
@[simp] theorem State.sampleFail_busy (s : State) : (s.sampleFail).busy = s.busy := rfl
@[simp] theorem State.sampleFail_opQ (s : State) : (s.sampleFail).opQ = s.opQ := rfl
@[simp] theorem State.sampleFail_addrQ (s : State) : (s.sampleFail).addrQ = s.addrQ := rfl
@[simp] theorem State.sampleFail_ctrlQ (s : State) : (s.sampleFail).ctrlQ = s.ctrlQ := rfl
@[simp] theorem State.sampleFail_lenQ (s : State) : (s.sampleFail).lenQ = s.lenQ := rfl
@[simp] theorem State.sampleFail_traceQ (s : State) : (s.sampleFail).traceQ = s.traceQ := rfl
@[simp] theorem State.sampleFail_wbuf (s : State) : (s.sampleFail).wbuf = s.wbuf := rfl
@[simp] theorem State.sampleFail_rbuf (s : State) : (s.sampleFail).rbuf = s.rbuf := rfl
@[simp] theorem State.sampleFail_idx (s : State) : (s.sampleFail).idx = s.idx := rfl
@[simp] theorem State.sampleFail_upc (s : State) : (s.sampleFail).upc = s.upc := rfl
@[simp] theorem State.sampleFail_waitCnt (s : State) : (s.sampleFail).waitCnt = s.waitCnt := rfl
@[simp] theorem State.sampleFail_failSeen (s : State) : (s.sampleFail).failSeen = (s.failSeen || (s.answerAt 0).failSlot == some s.idx.toNat) := rfl
@[simp] theorem State.sampleFail_ch (s : State) : (s.sampleFail).ch = s.ch := rfl
@[simp] theorem State.sampleFail_respValid (s : State) : (s.sampleFail).respValid = s.respValid := rfl
@[simp] theorem State.sampleFail_respStatus (s : State) : (s.sampleFail).respStatus = s.respStatus := rfl
@[simp] theorem State.sampleFail_respPresent (s : State) : (s.sampleFail).respPresent = s.respPresent := rfl
@[simp] theorem State.sampleFail_respLen (s : State) : (s.sampleFail).respLen = s.respLen := rfl
@[simp] theorem State.sampleFail_rdIdx (s : State) : (s.sampleFail).rdIdx = s.rdIdx := rfl
@[simp] theorem State.sampleFail_diagPort (s : State) : (s.sampleFail).diagPort = s.diagPort := rfl
@[simp] theorem State.sampleFail_sent (s : State) : (s.sampleFail).sent = s.sent := rfl
@[simp] theorem State.sampleFail_bus (s : State) : (s.sampleFail).bus = s.bus := rfl
@[simp] theorem State.sampleFail_responses (s : State) : (s.sampleFail).responses = s.responses := rfl
@[simp] theorem State.sampleFail_rdataOut (s : State) : (s.sampleFail).rdataOut = s.rdataOut := rfl
@[simp] theorem State.sampleFail_diagLog (s : State) : (s.sampleFail).diagLog = s.diagLog := rfl

/-! ### `closeExchange` -/

@[simp] theorem State.closeExchange_cfg (s : State) : (s.closeExchange).cfg = s.cfg := rfl
@[simp] theorem State.closeExchange_pins (s : State) : (s.closeExchange).pins = s.pins := rfl
@[simp] theorem State.closeExchange_pinScript (s : State) : (s.closeExchange).pinScript = s.pinScript := rfl
@[simp] theorem State.closeExchange_cmdIn (s : State) : (s.closeExchange).cmdIn = s.cmdIn := rfl
@[simp] theorem State.closeExchange_wdataIn (s : State) : (s.closeExchange).wdataIn = s.wdataIn := rfl
@[simp] theorem State.closeExchange_answers (s : State) : (s.closeExchange).answers = s.answers.tail := rfl
@[simp] theorem State.closeExchange_exchNo (s : State) : (s.closeExchange).exchNo = s.exchNo + 1 := rfl
@[simp] theorem State.closeExchange_fsm (s : State) : (s.closeExchange).fsm = s.fsm := rfl
@[simp] theorem State.closeExchange_seqActive (s : State) : (s.closeExchange).seqActive = s.seqActive := rfl
@[simp] theorem State.closeExchange_busy (s : State) : (s.closeExchange).busy = s.busy := rfl
@[simp] theorem State.closeExchange_opQ (s : State) : (s.closeExchange).opQ = s.opQ := rfl
@[simp] theorem State.closeExchange_addrQ (s : State) : (s.closeExchange).addrQ = s.addrQ := rfl
@[simp] theorem State.closeExchange_ctrlQ (s : State) : (s.closeExchange).ctrlQ = s.ctrlQ := rfl
@[simp] theorem State.closeExchange_lenQ (s : State) : (s.closeExchange).lenQ = s.lenQ := rfl
@[simp] theorem State.closeExchange_traceQ (s : State) : (s.closeExchange).traceQ = s.traceQ := rfl
@[simp] theorem State.closeExchange_wbuf (s : State) : (s.closeExchange).wbuf = s.wbuf := rfl
@[simp] theorem State.closeExchange_rbuf (s : State) : (s.closeExchange).rbuf = (if s.failSeen then [] else s.rbuf) := rfl
@[simp] theorem State.closeExchange_idx (s : State) : (s.closeExchange).idx = s.idx := rfl
@[simp] theorem State.closeExchange_upc (s : State) : (s.closeExchange).upc = s.upc := rfl
@[simp] theorem State.closeExchange_waitCnt (s : State) : (s.closeExchange).waitCnt = s.waitCnt := rfl
@[simp] theorem State.closeExchange_failSeen (s : State) : (s.closeExchange).failSeen = s.failSeen := rfl
@[simp] theorem State.closeExchange_ch (s : State) : (s.closeExchange).ch = { s.ch with cs := false } := rfl
@[simp] theorem State.closeExchange_respValid (s : State) : (s.closeExchange).respValid = s.respValid := rfl
@[simp] theorem State.closeExchange_respStatus (s : State) : (s.closeExchange).respStatus = s.respStatus := rfl
@[simp] theorem State.closeExchange_respPresent (s : State) : (s.closeExchange).respPresent = s.respPresent := rfl
@[simp] theorem State.closeExchange_respLen (s : State) : (s.closeExchange).respLen = s.respLen := rfl
@[simp] theorem State.closeExchange_rdIdx (s : State) : (s.closeExchange).rdIdx = s.rdIdx := rfl
@[simp] theorem State.closeExchange_diagPort (s : State) : (s.closeExchange).diagPort = s.diagPort := rfl
@[simp] theorem State.closeExchange_sent (s : State) : (s.closeExchange).sent = s.sent := rfl
@[simp] theorem State.closeExchange_bus (s : State) : (s.closeExchange).bus = s.bus ++ [.exchange s.sent (!s.failSeen)] := rfl
@[simp] theorem State.closeExchange_responses (s : State) : (s.closeExchange).responses = s.responses := rfl
@[simp] theorem State.closeExchange_rdataOut (s : State) : (s.closeExchange).rdataOut = s.rdataOut := rfl
@[simp] theorem State.closeExchange_diagLog (s : State) : (s.closeExchange).diagLog = s.diagLog := rfl

/-! ### `respond` -/

@[simp] theorem State.respond_cfg (s : State) (st : Status) (p : Bool) (l : Half) : (s.respond st p l).cfg = s.cfg := rfl
@[simp] theorem State.respond_pins (s : State) (st : Status) (p : Bool) (l : Half) : (s.respond st p l).pins = s.pins := rfl
@[simp] theorem State.respond_pinScript (s : State) (st : Status) (p : Bool) (l : Half) : (s.respond st p l).pinScript = s.pinScript := rfl
@[simp] theorem State.respond_cmdIn (s : State) (st : Status) (p : Bool) (l : Half) : (s.respond st p l).cmdIn = s.cmdIn := rfl
@[simp] theorem State.respond_wdataIn (s : State) (st : Status) (p : Bool) (l : Half) : (s.respond st p l).wdataIn = s.wdataIn := rfl
@[simp] theorem State.respond_answers (s : State) (st : Status) (p : Bool) (l : Half) : (s.respond st p l).answers = s.answers := rfl
@[simp] theorem State.respond_exchNo (s : State) (st : Status) (p : Bool) (l : Half) : (s.respond st p l).exchNo = s.exchNo := rfl
@[simp] theorem State.respond_fsm (s : State) (st : Status) (p : Bool) (l : Half) : (s.respond st p l).fsm = .resp := rfl
@[simp] theorem State.respond_seqActive (s : State) (st : Status) (p : Bool) (l : Half) : (s.respond st p l).seqActive = s.seqActive := rfl
@[simp] theorem State.respond_busy (s : State) (st : Status) (p : Bool) (l : Half) : (s.respond st p l).busy = s.busy := rfl
@[simp] theorem State.respond_opQ (s : State) (st : Status) (p : Bool) (l : Half) : (s.respond st p l).opQ = s.opQ := rfl
@[simp] theorem State.respond_addrQ (s : State) (st : Status) (p : Bool) (l : Half) : (s.respond st p l).addrQ = s.addrQ := rfl
@[simp] theorem State.respond_ctrlQ (s : State) (st : Status) (p : Bool) (l : Half) : (s.respond st p l).ctrlQ = s.ctrlQ := rfl
@[simp] theorem State.respond_lenQ (s : State) (st : Status) (p : Bool) (l : Half) : (s.respond st p l).lenQ = s.lenQ := rfl
@[simp] theorem State.respond_traceQ (s : State) (st : Status) (p : Bool) (l : Half) : (s.respond st p l).traceQ = s.traceQ := rfl
@[simp] theorem State.respond_wbuf (s : State) (st : Status) (p : Bool) (l : Half) : (s.respond st p l).wbuf = s.wbuf := rfl
@[simp] theorem State.respond_rbuf (s : State) (st : Status) (p : Bool) (l : Half) : (s.respond st p l).rbuf = s.rbuf := rfl
@[simp] theorem State.respond_idx (s : State) (st : Status) (p : Bool) (l : Half) : (s.respond st p l).idx = s.idx := rfl
@[simp] theorem State.respond_upc (s : State) (st : Status) (p : Bool) (l : Half) : (s.respond st p l).upc = s.upc := rfl
@[simp] theorem State.respond_waitCnt (s : State) (st : Status) (p : Bool) (l : Half) : (s.respond st p l).waitCnt = s.waitCnt := rfl
@[simp] theorem State.respond_failSeen (s : State) (st : Status) (p : Bool) (l : Half) : (s.respond st p l).failSeen = s.failSeen := rfl
@[simp] theorem State.respond_ch (s : State) (st : Status) (p : Bool) (l : Half) : (s.respond st p l).ch = s.ch := rfl
@[simp] theorem State.respond_respValid (s : State) (st : Status) (p : Bool) (l : Half) : (s.respond st p l).respValid = true := rfl
@[simp] theorem State.respond_respStatus (s : State) (st : Status) (p : Bool) (l : Half) : (s.respond st p l).respStatus = st := rfl
@[simp] theorem State.respond_respPresent (s : State) (st : Status) (p : Bool) (l : Half) : (s.respond st p l).respPresent = p := rfl
@[simp] theorem State.respond_respLen (s : State) (st : Status) (p : Bool) (l : Half) : (s.respond st p l).respLen = l := rfl
@[simp] theorem State.respond_rdIdx (s : State) (st : Status) (p : Bool) (l : Half) : (s.respond st p l).rdIdx = 0 := rfl
@[simp] theorem State.respond_diagPort (s : State) (st : Status) (p : Bool) (l : Half) : (s.respond st p l).diagPort = s.diagPort := rfl
@[simp] theorem State.respond_sent (s : State) (st : Status) (p : Bool) (l : Half) : (s.respond st p l).sent = s.sent := rfl
@[simp] theorem State.respond_bus (s : State) (st : Status) (p : Bool) (l : Half) : (s.respond st p l).bus = s.bus := rfl
@[simp] theorem State.respond_responses (s : State) (st : Status) (p : Bool) (l : Half) : (s.respond st p l).responses = s.responses := rfl
@[simp] theorem State.respond_rdataOut (s : State) (st : Status) (p : Bool) (l : Half) : (s.respond st p l).rdataOut = s.rdataOut := rfl
@[simp] theorem State.respond_diagLog (s : State) (st : Status) (p : Bool) (l : Half) : (s.respond st p l).diagLog = s.diagLog := rfl

/-! ### `goIdle` -/

@[simp] theorem State.goIdle_cfg (s : State) : (s.goIdle).cfg = s.cfg := rfl
@[simp] theorem State.goIdle_pins (s : State) : (s.goIdle).pins = s.pins := rfl
@[simp] theorem State.goIdle_pinScript (s : State) : (s.goIdle).pinScript = s.pinScript := rfl
@[simp] theorem State.goIdle_cmdIn (s : State) : (s.goIdle).cmdIn = s.cmdIn := rfl
@[simp] theorem State.goIdle_wdataIn (s : State) : (s.goIdle).wdataIn = s.wdataIn := rfl
@[simp] theorem State.goIdle_answers (s : State) : (s.goIdle).answers = s.answers := rfl
@[simp] theorem State.goIdle_exchNo (s : State) : (s.goIdle).exchNo = s.exchNo := rfl
@[simp] theorem State.goIdle_fsm (s : State) : (s.goIdle).fsm = .idle := rfl
@[simp] theorem State.goIdle_seqActive (s : State) : (s.goIdle).seqActive = s.seqActive := rfl
@[simp] theorem State.goIdle_busy (s : State) : (s.goIdle).busy = false := rfl
@[simp] theorem State.goIdle_opQ (s : State) : (s.goIdle).opQ = s.opQ := rfl
@[simp] theorem State.goIdle_addrQ (s : State) : (s.goIdle).addrQ = s.addrQ := rfl
@[simp] theorem State.goIdle_ctrlQ (s : State) : (s.goIdle).ctrlQ = s.ctrlQ := rfl
@[simp] theorem State.goIdle_lenQ (s : State) : (s.goIdle).lenQ = s.lenQ := rfl
@[simp] theorem State.goIdle_traceQ (s : State) : (s.goIdle).traceQ = s.traceQ := rfl
@[simp] theorem State.goIdle_wbuf (s : State) : (s.goIdle).wbuf = s.wbuf := rfl
@[simp] theorem State.goIdle_rbuf (s : State) : (s.goIdle).rbuf = s.rbuf := rfl
@[simp] theorem State.goIdle_idx (s : State) : (s.goIdle).idx = s.idx := rfl
@[simp] theorem State.goIdle_upc (s : State) : (s.goIdle).upc = s.upc := rfl
@[simp] theorem State.goIdle_waitCnt (s : State) : (s.goIdle).waitCnt = s.waitCnt := rfl
@[simp] theorem State.goIdle_failSeen (s : State) : (s.goIdle).failSeen = s.failSeen := rfl
@[simp] theorem State.goIdle_ch (s : State) : (s.goIdle).ch = s.ch := rfl
@[simp] theorem State.goIdle_respValid (s : State) : (s.goIdle).respValid = s.respValid := rfl
@[simp] theorem State.goIdle_respStatus (s : State) : (s.goIdle).respStatus = s.respStatus := rfl
@[simp] theorem State.goIdle_respPresent (s : State) : (s.goIdle).respPresent = s.respPresent := rfl
@[simp] theorem State.goIdle_respLen (s : State) : (s.goIdle).respLen = s.respLen := rfl
@[simp] theorem State.goIdle_rdIdx (s : State) : (s.goIdle).rdIdx = s.rdIdx := rfl
@[simp] theorem State.goIdle_diagPort (s : State) : (s.goIdle).diagPort = s.diagPort := rfl
@[simp] theorem State.goIdle_sent (s : State) : (s.goIdle).sent = s.sent := rfl
@[simp] theorem State.goIdle_bus (s : State) : (s.goIdle).bus = s.bus := rfl
@[simp] theorem State.goIdle_responses (s : State) : (s.goIdle).responses = s.responses := rfl
@[simp] theorem State.goIdle_rdataOut (s : State) : (s.goIdle).rdataOut = s.rdataOut := rfl
@[simp] theorem State.goIdle_diagLog (s : State) : (s.goIdle).diagLog = s.diagLog := rfl

/-! ### `clearDiag` -/

@[simp] theorem State.clearDiag_cfg (s : State) : (s.clearDiag).cfg = s.cfg := rfl
@[simp] theorem State.clearDiag_pins (s : State) : (s.clearDiag).pins = s.pins := rfl
@[simp] theorem State.clearDiag_pinScript (s : State) : (s.clearDiag).pinScript = s.pinScript := rfl
@[simp] theorem State.clearDiag_cmdIn (s : State) : (s.clearDiag).cmdIn = s.cmdIn := rfl
@[simp] theorem State.clearDiag_wdataIn (s : State) : (s.clearDiag).wdataIn = s.wdataIn := rfl
@[simp] theorem State.clearDiag_answers (s : State) : (s.clearDiag).answers = s.answers := rfl
@[simp] theorem State.clearDiag_exchNo (s : State) : (s.clearDiag).exchNo = s.exchNo := rfl
@[simp] theorem State.clearDiag_fsm (s : State) : (s.clearDiag).fsm = s.fsm := rfl
@[simp] theorem State.clearDiag_seqActive (s : State) : (s.clearDiag).seqActive = s.seqActive := rfl
@[simp] theorem State.clearDiag_busy (s : State) : (s.clearDiag).busy = s.busy := rfl
@[simp] theorem State.clearDiag_opQ (s : State) : (s.clearDiag).opQ = s.opQ := rfl
@[simp] theorem State.clearDiag_addrQ (s : State) : (s.clearDiag).addrQ = s.addrQ := rfl
@[simp] theorem State.clearDiag_ctrlQ (s : State) : (s.clearDiag).ctrlQ = s.ctrlQ := rfl
@[simp] theorem State.clearDiag_lenQ (s : State) : (s.clearDiag).lenQ = s.lenQ := rfl
@[simp] theorem State.clearDiag_traceQ (s : State) : (s.clearDiag).traceQ = s.traceQ := rfl
@[simp] theorem State.clearDiag_wbuf (s : State) : (s.clearDiag).wbuf = s.wbuf := rfl
@[simp] theorem State.clearDiag_rbuf (s : State) : (s.clearDiag).rbuf = s.rbuf := rfl
@[simp] theorem State.clearDiag_idx (s : State) : (s.clearDiag).idx = s.idx := rfl
@[simp] theorem State.clearDiag_upc (s : State) : (s.clearDiag).upc = s.upc := rfl
@[simp] theorem State.clearDiag_waitCnt (s : State) : (s.clearDiag).waitCnt = s.waitCnt := rfl
@[simp] theorem State.clearDiag_failSeen (s : State) : (s.clearDiag).failSeen = s.failSeen := rfl
@[simp] theorem State.clearDiag_ch (s : State) : (s.clearDiag).ch = s.ch := rfl
@[simp] theorem State.clearDiag_respValid (s : State) : (s.clearDiag).respValid = s.respValid := rfl
@[simp] theorem State.clearDiag_respStatus (s : State) : (s.clearDiag).respStatus = s.respStatus := rfl
@[simp] theorem State.clearDiag_respPresent (s : State) : (s.clearDiag).respPresent = s.respPresent := rfl
@[simp] theorem State.clearDiag_respLen (s : State) : (s.clearDiag).respLen = s.respLen := rfl
@[simp] theorem State.clearDiag_rdIdx (s : State) : (s.clearDiag).rdIdx = s.rdIdx := rfl
@[simp] theorem State.clearDiag_diagPort (s : State) : (s.clearDiag).diagPort = none := rfl
@[simp] theorem State.clearDiag_sent (s : State) : (s.clearDiag).sent = s.sent := rfl
@[simp] theorem State.clearDiag_bus (s : State) : (s.clearDiag).bus = s.bus := rfl
@[simp] theorem State.clearDiag_responses (s : State) : (s.clearDiag).responses = s.responses := rfl
@[simp] theorem State.clearDiag_rdataOut (s : State) : (s.clearDiag).rdataOut = s.rdataOut := rfl
@[simp] theorem State.clearDiag_diagLog (s : State) : (s.clearDiag).diagLog = s.diagLog := rfl

/-! ### `enterWait` -/

@[simp] theorem State.enterWait_cfg (s : State) : (s.enterWait).cfg = s.cfg := rfl
@[simp] theorem State.enterWait_pins (s : State) : (s.enterWait).pins = s.pins := rfl
@[simp] theorem State.enterWait_pinScript (s : State) : (s.enterWait).pinScript = s.pinScript := rfl
@[simp] theorem State.enterWait_cmdIn (s : State) : (s.enterWait).cmdIn = s.cmdIn := rfl
@[simp] theorem State.enterWait_wdataIn (s : State) : (s.enterWait).wdataIn = s.wdataIn := rfl
@[simp] theorem State.enterWait_answers (s : State) : (s.enterWait).answers = s.answers := rfl
@[simp] theorem State.enterWait_exchNo (s : State) : (s.enterWait).exchNo = s.exchNo := rfl
@[simp] theorem State.enterWait_fsm (s : State) : (s.enterWait).fsm = .wait := rfl
@[simp] theorem State.enterWait_seqActive (s : State) : (s.enterWait).seqActive = s.seqActive := rfl
@[simp] theorem State.enterWait_busy (s : State) : (s.enterWait).busy = s.busy := rfl
@[simp] theorem State.enterWait_opQ (s : State) : (s.enterWait).opQ = s.opQ := rfl
@[simp] theorem State.enterWait_addrQ (s : State) : (s.enterWait).addrQ = s.addrQ := rfl
@[simp] theorem State.enterWait_ctrlQ (s : State) : (s.enterWait).ctrlQ = s.ctrlQ := rfl
@[simp] theorem State.enterWait_lenQ (s : State) : (s.enterWait).lenQ = s.lenQ := rfl
@[simp] theorem State.enterWait_traceQ (s : State) : (s.enterWait).traceQ = s.traceQ := rfl
@[simp] theorem State.enterWait_wbuf (s : State) : (s.enterWait).wbuf = s.wbuf := rfl
@[simp] theorem State.enterWait_rbuf (s : State) : (s.enterWait).rbuf = s.rbuf := rfl
@[simp] theorem State.enterWait_idx (s : State) : (s.enterWait).idx = s.idx := rfl
@[simp] theorem State.enterWait_upc (s : State) : (s.enterWait).upc = s.upc := rfl
@[simp] theorem State.enterWait_waitCnt (s : State) : (s.enterWait).waitCnt = s.cfg.waitCycles := rfl
@[simp] theorem State.enterWait_failSeen (s : State) : (s.enterWait).failSeen = s.failSeen := rfl
@[simp] theorem State.enterWait_ch (s : State) : (s.enterWait).ch = { s.ch with cs := false } := rfl
@[simp] theorem State.enterWait_respValid (s : State) : (s.enterWait).respValid = s.respValid := rfl
@[simp] theorem State.enterWait_respStatus (s : State) : (s.enterWait).respStatus = s.respStatus := rfl
@[simp] theorem State.enterWait_respPresent (s : State) : (s.enterWait).respPresent = s.respPresent := rfl
@[simp] theorem State.enterWait_respLen (s : State) : (s.enterWait).respLen = s.respLen := rfl
@[simp] theorem State.enterWait_rdIdx (s : State) : (s.enterWait).rdIdx = s.rdIdx := rfl
@[simp] theorem State.enterWait_diagPort (s : State) : (s.enterWait).diagPort = s.diagPort := rfl
@[simp] theorem State.enterWait_sent (s : State) : (s.enterWait).sent = s.sent := rfl
@[simp] theorem State.enterWait_bus (s : State) : (s.enterWait).bus = s.bus := rfl
@[simp] theorem State.enterWait_responses (s : State) : (s.enterWait).responses = s.responses := rfl
@[simp] theorem State.enterWait_rdataOut (s : State) : (s.enterWait).rdataOut = s.rdataOut := rfl
@[simp] theorem State.enterWait_diagLog (s : State) : (s.enterWait).diagLog = s.diagLog := rfl

/-! ### `finishPresent` -/

@[simp] theorem State.finishPresent_cfg (s : State) : (s.finishPresent).cfg = s.cfg := rfl
@[simp] theorem State.finishPresent_pins (s : State) : (s.finishPresent).pins = s.pins := rfl
@[simp] theorem State.finishPresent_pinScript (s : State) : (s.finishPresent).pinScript = s.pinScript := rfl
@[simp] theorem State.finishPresent_cmdIn (s : State) : (s.finishPresent).cmdIn = s.cmdIn := rfl
@[simp] theorem State.finishPresent_wdataIn (s : State) : (s.finishPresent).wdataIn = s.wdataIn := rfl
@[simp] theorem State.finishPresent_answers (s : State) : (s.finishPresent).answers = s.answers := rfl
@[simp] theorem State.finishPresent_exchNo (s : State) : (s.finishPresent).exchNo = s.exchNo := rfl
@[simp] theorem State.finishPresent_fsm (s : State) : (s.finishPresent).fsm = .resp := rfl
@[simp] theorem State.finishPresent_seqActive (s : State) : (s.finishPresent).seqActive = s.seqActive := rfl
@[simp] theorem State.finishPresent_busy (s : State) : (s.finishPresent).busy = s.busy := rfl
@[simp] theorem State.finishPresent_opQ (s : State) : (s.finishPresent).opQ = s.opQ := rfl
@[simp] theorem State.finishPresent_addrQ (s : State) : (s.finishPresent).addrQ = s.addrQ := rfl
@[simp] theorem State.finishPresent_ctrlQ (s : State) : (s.finishPresent).ctrlQ = s.ctrlQ := rfl
@[simp] theorem State.finishPresent_lenQ (s : State) : (s.finishPresent).lenQ = s.lenQ := rfl
@[simp] theorem State.finishPresent_traceQ (s : State) : (s.finishPresent).traceQ = s.traceQ := rfl
@[simp] theorem State.finishPresent_wbuf (s : State) : (s.finishPresent).wbuf = s.wbuf := rfl
@[simp] theorem State.finishPresent_rbuf (s : State) : (s.finishPresent).rbuf = s.rbuf := rfl
@[simp] theorem State.finishPresent_idx (s : State) : (s.finishPresent).idx = s.idx := rfl
@[simp] theorem State.finishPresent_upc (s : State) : (s.finishPresent).upc = 10#4 := rfl
@[simp] theorem State.finishPresent_waitCnt (s : State) : (s.finishPresent).waitCnt = s.waitCnt := rfl
@[simp] theorem State.finishPresent_failSeen (s : State) : (s.finishPresent).failSeen = s.failSeen := rfl
@[simp] theorem State.finishPresent_ch (s : State) : (s.finishPresent).ch = s.ch := rfl
@[simp] theorem State.finishPresent_respValid (s : State) : (s.finishPresent).respValid = true := rfl
@[simp] theorem State.finishPresent_respStatus (s : State) : (s.finishPresent).respStatus = .ok := rfl
@[simp] theorem State.finishPresent_respPresent (s : State) : (s.finishPresent).respPresent = true := rfl
@[simp] theorem State.finishPresent_respLen (s : State) : (s.finishPresent).respLen = 0#16 := rfl
@[simp] theorem State.finishPresent_rdIdx (s : State) : (s.finishPresent).rdIdx = 0 := rfl
@[simp] theorem State.finishPresent_diagPort (s : State) : (s.finishPresent).diagPort = s.diagPort := rfl
@[simp] theorem State.finishPresent_sent (s : State) : (s.finishPresent).sent = s.sent := rfl
@[simp] theorem State.finishPresent_bus (s : State) : (s.finishPresent).bus = s.bus := rfl
@[simp] theorem State.finishPresent_responses (s : State) : (s.finishPresent).responses = s.responses := rfl
@[simp] theorem State.finishPresent_rdataOut (s : State) : (s.finishPresent).rdataOut = s.rdataOut := rfl
@[simp] theorem State.finishPresent_diagLog (s : State) : (s.finishPresent).diagLog = s.diagLog := rfl

/-! ### `finishAbsent` -/

@[simp] theorem State.finishAbsent_cfg (s : State) : (s.finishAbsent).cfg = s.cfg := rfl
@[simp] theorem State.finishAbsent_pins (s : State) : (s.finishAbsent).pins = s.pins := rfl
@[simp] theorem State.finishAbsent_pinScript (s : State) : (s.finishAbsent).pinScript = s.pinScript := rfl
@[simp] theorem State.finishAbsent_cmdIn (s : State) : (s.finishAbsent).cmdIn = s.cmdIn := rfl
@[simp] theorem State.finishAbsent_wdataIn (s : State) : (s.finishAbsent).wdataIn = s.wdataIn := rfl
@[simp] theorem State.finishAbsent_answers (s : State) : (s.finishAbsent).answers = s.answers := rfl
@[simp] theorem State.finishAbsent_exchNo (s : State) : (s.finishAbsent).exchNo = s.exchNo := rfl
@[simp] theorem State.finishAbsent_fsm (s : State) : (s.finishAbsent).fsm = .resp := rfl
@[simp] theorem State.finishAbsent_seqActive (s : State) : (s.finishAbsent).seqActive = s.seqActive := rfl
@[simp] theorem State.finishAbsent_busy (s : State) : (s.finishAbsent).busy = s.busy := rfl
@[simp] theorem State.finishAbsent_opQ (s : State) : (s.finishAbsent).opQ = s.opQ := rfl
@[simp] theorem State.finishAbsent_addrQ (s : State) : (s.finishAbsent).addrQ = s.addrQ := rfl
@[simp] theorem State.finishAbsent_ctrlQ (s : State) : (s.finishAbsent).ctrlQ = s.ctrlQ := rfl
@[simp] theorem State.finishAbsent_lenQ (s : State) : (s.finishAbsent).lenQ = s.lenQ := rfl
@[simp] theorem State.finishAbsent_traceQ (s : State) : (s.finishAbsent).traceQ = s.traceQ := rfl
@[simp] theorem State.finishAbsent_wbuf (s : State) : (s.finishAbsent).wbuf = s.wbuf := rfl
@[simp] theorem State.finishAbsent_rbuf (s : State) : (s.finishAbsent).rbuf = s.rbuf := rfl
@[simp] theorem State.finishAbsent_idx (s : State) : (s.finishAbsent).idx = s.idx := rfl
@[simp] theorem State.finishAbsent_upc (s : State) : (s.finishAbsent).upc = 11#4 := rfl
@[simp] theorem State.finishAbsent_waitCnt (s : State) : (s.finishAbsent).waitCnt = s.waitCnt := rfl
@[simp] theorem State.finishAbsent_failSeen (s : State) : (s.finishAbsent).failSeen = s.failSeen := rfl
@[simp] theorem State.finishAbsent_ch (s : State) : (s.finishAbsent).ch = s.ch := rfl
@[simp] theorem State.finishAbsent_respValid (s : State) : (s.finishAbsent).respValid = true := rfl
@[simp] theorem State.finishAbsent_respStatus (s : State) : (s.finishAbsent).respStatus = .ok := rfl
@[simp] theorem State.finishAbsent_respPresent (s : State) : (s.finishAbsent).respPresent = false := rfl
@[simp] theorem State.finishAbsent_respLen (s : State) : (s.finishAbsent).respLen = 0#16 := rfl
@[simp] theorem State.finishAbsent_rdIdx (s : State) : (s.finishAbsent).rdIdx = 0 := rfl
@[simp] theorem State.finishAbsent_diagPort (s : State) : (s.finishAbsent).diagPort = s.diagPort := rfl
@[simp] theorem State.finishAbsent_sent (s : State) : (s.finishAbsent).sent = s.sent := rfl
@[simp] theorem State.finishAbsent_bus (s : State) : (s.finishAbsent).bus = s.bus := rfl
@[simp] theorem State.finishAbsent_responses (s : State) : (s.finishAbsent).responses = s.responses := rfl
@[simp] theorem State.finishAbsent_rdataOut (s : State) : (s.finishAbsent).rdataOut = s.rdataOut := rfl
@[simp] theorem State.finishAbsent_diagLog (s : State) : (s.finishAbsent).diagLog = s.diagLog := rfl

/-! ### `raiseBusFailure` -/

@[simp] theorem State.raiseBusFailure_cfg (s : State) : (s.raiseBusFailure).cfg = s.cfg := rfl
@[simp] theorem State.raiseBusFailure_pins (s : State) : (s.raiseBusFailure).pins = s.pins := rfl
@[simp] theorem State.raiseBusFailure_pinScript (s : State) : (s.raiseBusFailure).pinScript = s.pinScript := rfl
@[simp] theorem State.raiseBusFailure_cmdIn (s : State) : (s.raiseBusFailure).cmdIn = s.cmdIn := rfl
@[simp] theorem State.raiseBusFailure_wdataIn (s : State) : (s.raiseBusFailure).wdataIn = s.wdataIn := rfl
@[simp] theorem State.raiseBusFailure_answers (s : State) : (s.raiseBusFailure).answers = s.answers := rfl
@[simp] theorem State.raiseBusFailure_exchNo (s : State) : (s.raiseBusFailure).exchNo = s.exchNo := rfl
@[simp] theorem State.raiseBusFailure_fsm (s : State) : (s.raiseBusFailure).fsm = .resp := rfl
@[simp] theorem State.raiseBusFailure_seqActive (s : State) : (s.raiseBusFailure).seqActive = s.seqActive := rfl
@[simp] theorem State.raiseBusFailure_busy (s : State) : (s.raiseBusFailure).busy = s.busy := rfl
@[simp] theorem State.raiseBusFailure_opQ (s : State) : (s.raiseBusFailure).opQ = s.opQ := rfl
@[simp] theorem State.raiseBusFailure_addrQ (s : State) : (s.raiseBusFailure).addrQ = s.addrQ := rfl
@[simp] theorem State.raiseBusFailure_ctrlQ (s : State) : (s.raiseBusFailure).ctrlQ = s.ctrlQ := rfl
@[simp] theorem State.raiseBusFailure_lenQ (s : State) : (s.raiseBusFailure).lenQ = s.lenQ := rfl
@[simp] theorem State.raiseBusFailure_traceQ (s : State) : (s.raiseBusFailure).traceQ = s.traceQ := rfl
@[simp] theorem State.raiseBusFailure_wbuf (s : State) : (s.raiseBusFailure).wbuf = s.wbuf := rfl
@[simp] theorem State.raiseBusFailure_rbuf (s : State) : (s.raiseBusFailure).rbuf = s.rbuf := rfl
@[simp] theorem State.raiseBusFailure_idx (s : State) : (s.raiseBusFailure).idx = s.idx := rfl
@[simp] theorem State.raiseBusFailure_upc (s : State) : (s.raiseBusFailure).upc = s.upc := rfl
@[simp] theorem State.raiseBusFailure_waitCnt (s : State) : (s.raiseBusFailure).waitCnt = s.waitCnt := rfl
@[simp] theorem State.raiseBusFailure_failSeen (s : State) : (s.raiseBusFailure).failSeen = s.failSeen := rfl
@[simp] theorem State.raiseBusFailure_ch (s : State) : (s.raiseBusFailure).ch = s.ch := rfl
@[simp] theorem State.raiseBusFailure_respValid (s : State) : (s.raiseBusFailure).respValid = true := rfl
@[simp] theorem State.raiseBusFailure_respStatus (s : State) : (s.raiseBusFailure).respStatus = .busFailure := rfl
@[simp] theorem State.raiseBusFailure_respPresent (s : State) : (s.raiseBusFailure).respPresent = false := rfl
@[simp] theorem State.raiseBusFailure_respLen (s : State) : (s.raiseBusFailure).respLen = 0#16 := rfl
@[simp] theorem State.raiseBusFailure_rdIdx (s : State) : (s.raiseBusFailure).rdIdx = 0 := rfl
@[simp] theorem State.raiseBusFailure_diagPort (s : State) : (s.raiseBusFailure).diagPort = s.diagPort := rfl
@[simp] theorem State.raiseBusFailure_sent (s : State) : (s.raiseBusFailure).sent = s.sent := rfl
@[simp] theorem State.raiseBusFailure_bus (s : State) : (s.raiseBusFailure).bus = s.bus := rfl
@[simp] theorem State.raiseBusFailure_responses (s : State) : (s.raiseBusFailure).responses = s.responses := rfl
@[simp] theorem State.raiseBusFailure_rdataOut (s : State) : (s.raiseBusFailure).rdataOut = s.rdataOut := rfl
@[simp] theorem State.raiseBusFailure_diagLog (s : State) : (s.raiseBusFailure).diagLog = s.diagLog := rfl

/-! ### `refuseCommand` -/

@[simp] theorem State.refuseCommand_cfg (s : State) : (s.refuseCommand).cfg = s.cfg := rfl
@[simp] theorem State.refuseCommand_pins (s : State) : (s.refuseCommand).pins = s.pins := rfl
@[simp] theorem State.refuseCommand_pinScript (s : State) : (s.refuseCommand).pinScript = s.pinScript := rfl
@[simp] theorem State.refuseCommand_cmdIn (s : State) : (s.refuseCommand).cmdIn = s.cmdIn := rfl
@[simp] theorem State.refuseCommand_wdataIn (s : State) : (s.refuseCommand).wdataIn = s.wdataIn := rfl
@[simp] theorem State.refuseCommand_answers (s : State) : (s.refuseCommand).answers = s.answers := rfl
@[simp] theorem State.refuseCommand_exchNo (s : State) : (s.refuseCommand).exchNo = s.exchNo := rfl
@[simp] theorem State.refuseCommand_fsm (s : State) : (s.refuseCommand).fsm = .resp := rfl
@[simp] theorem State.refuseCommand_seqActive (s : State) : (s.refuseCommand).seqActive = s.seqActive := rfl
@[simp] theorem State.refuseCommand_busy (s : State) : (s.refuseCommand).busy = true := rfl
@[simp] theorem State.refuseCommand_opQ (s : State) : (s.refuseCommand).opQ = s.opQ := rfl
@[simp] theorem State.refuseCommand_addrQ (s : State) : (s.refuseCommand).addrQ = s.addrQ := rfl
@[simp] theorem State.refuseCommand_ctrlQ (s : State) : (s.refuseCommand).ctrlQ = s.ctrlQ := rfl
@[simp] theorem State.refuseCommand_lenQ (s : State) : (s.refuseCommand).lenQ = s.lenQ := rfl
@[simp] theorem State.refuseCommand_traceQ (s : State) : (s.refuseCommand).traceQ = s.traceQ := rfl
@[simp] theorem State.refuseCommand_wbuf (s : State) : (s.refuseCommand).wbuf = s.wbuf := rfl
@[simp] theorem State.refuseCommand_rbuf (s : State) : (s.refuseCommand).rbuf = s.rbuf := rfl
@[simp] theorem State.refuseCommand_idx (s : State) : (s.refuseCommand).idx = s.idx := rfl
@[simp] theorem State.refuseCommand_upc (s : State) : (s.refuseCommand).upc = s.upc := rfl
@[simp] theorem State.refuseCommand_waitCnt (s : State) : (s.refuseCommand).waitCnt = s.waitCnt := rfl
@[simp] theorem State.refuseCommand_failSeen (s : State) : (s.refuseCommand).failSeen = s.failSeen := rfl
@[simp] theorem State.refuseCommand_ch (s : State) : (s.refuseCommand).ch = s.ch := rfl
@[simp] theorem State.refuseCommand_respValid (s : State) : (s.refuseCommand).respValid = true := rfl
@[simp] theorem State.refuseCommand_respStatus (s : State) : (s.refuseCommand).respStatus = .illegalCmd := rfl
@[simp] theorem State.refuseCommand_respPresent (s : State) : (s.refuseCommand).respPresent = false := rfl
@[simp] theorem State.refuseCommand_respLen (s : State) : (s.refuseCommand).respLen = 0#16 := rfl
@[simp] theorem State.refuseCommand_rdIdx (s : State) : (s.refuseCommand).rdIdx = 0 := rfl
@[simp] theorem State.refuseCommand_diagPort (s : State) : (s.refuseCommand).diagPort = s.diagPort := rfl
@[simp] theorem State.refuseCommand_sent (s : State) : (s.refuseCommand).sent = s.sent := rfl
@[simp] theorem State.refuseCommand_bus (s : State) : (s.refuseCommand).bus = s.bus := rfl
@[simp] theorem State.refuseCommand_responses (s : State) : (s.refuseCommand).responses = s.responses := rfl
@[simp] theorem State.refuseCommand_rdataOut (s : State) : (s.refuseCommand).rdataOut = s.rdataOut := rfl
@[simp] theorem State.refuseCommand_diagLog (s : State) : (s.refuseCommand).diagLog = s.diagLog := rfl

end Sys2Proof.Machine
end

