-- ==== Sys2Proof/Laws/Channel.lean ====
section
/-! SUPPORT. The byte channel: what a byte slot, a run of byte slots and a whole exchange do. The engine computes an
exchange bit by bit; the lemmas at the end say what comes out of it, and later proofs cite those. -/

namespace Sys2Proof.Machine

open Sys2Proof

/-! ### One byte slot, bit by bit -/

/-- One bit shifted in is bit 0; the others move up by one. -/
theorem shiftIn_getLsbD (r : Byte) (b : Bool) (i : Nat) :
    (shiftIn r b).getLsbD i = if i = 0 then b else decide (i < 8) && r.getLsbD (i - 1) := by
  simp only [shiftIn, BitVec.getLsbD_append, BitVec.getLsbD_ofBool, BitVec.getLsbD_extractLsb']
  by_cases h : i = 0
  · simp [h]
  · have : (decide (i - 1 < 7) : Bool) = decide (i < 8) := decide_eq_decide.2 (by omega)
    have h1 : ¬ i < 1 := by omega
    simp [h, h1, this]

/-- Shifting eight bits leaves exactly those bits in the shift register. -/
theorem shiftIn_bitsOf (t r : Byte) : (bitsOf r).foldl shiftIn t = r := by
  apply BitVec.eq_of_getLsbD_eq
  intro i hi
  simp only [bitsOf, List.foldl]
  interval_cases i <;> simp only [shiftIn_getLsbD] <;> rfl

/-- The bits of a byte, first wire bit first, assemble to the byte. -/
theorem byteOf_bitsOf (b : Byte) : byteOf (bitsOf b) = b := shiftIn_bitsOf 0#8 b

/-- The eight pulses of a byte slot put the bits of the shift register on `mosi`, bit 7 first, while `ms` comes in. -/
theorem Channel.shiftBits_bitsOf (r : Byte) (ch : Channel) :
    ch.shiftBits (bitsOf r) =
      (bitsOf ch.shift, ⟨ch.cs, false, ch.shift.getLsbD 0, r, ch.bitCnt, ch.pulses + 8⟩) := by
  have e : ∀ c : BitVec 3, c + 1#3 + 1#3 + 1#3 + 1#3 + 1#3 + 1#3 + 1#3 + 1#3 = c := by decide
  have h := shiftIn_bitsOf ch.shift r
  simp only [bitsOf, List.foldl] at h
  simp only [bitsOf, shiftBits, drive, rise, fall, BitVec.msb_eq_getLsbD_last, shiftIn_getLsbD, h, e]
  rfl

/-- A byte slot: the device has sampled the byte sent, the shift register holds the byte received, `sclk` rests low. -/
theorem Channel.shiftByte_eq (t r : Byte) (ch : Channel) :
    ch.shiftByte t r = (t, ⟨ch.cs, false, t.getLsbD 0, r, 0#3, ch.pulses + 8⟩) := by
  simp only [shiftByte, shiftBits_bitsOf, load, byteOf_bitsOf]

/-! ### A byte slot -/

@[simp] theorem State.byteSlot_cfg (s : State) : (s.byteSlot).cfg = s.cfg := rfl
@[simp] theorem State.byteSlot_pins (s : State) : (s.byteSlot).pins = s.pins := rfl
@[simp] theorem State.byteSlot_pinScript (s : State) : (s.byteSlot).pinScript = s.pinScript := rfl
@[simp] theorem State.byteSlot_cmdIn (s : State) : (s.byteSlot).cmdIn = s.cmdIn := rfl
@[simp] theorem State.byteSlot_wdataIn (s : State) : (s.byteSlot).wdataIn = s.wdataIn := rfl
@[simp] theorem State.byteSlot_answers (s : State) : (s.byteSlot).answers = s.answers := rfl
@[simp] theorem State.byteSlot_exchNo (s : State) : (s.byteSlot).exchNo = s.exchNo := rfl
@[simp] theorem State.byteSlot_fsm (s : State) : (s.byteSlot).fsm = s.fsm := rfl
@[simp] theorem State.byteSlot_seqActive (s : State) : (s.byteSlot).seqActive = s.seqActive := rfl
@[simp] theorem State.byteSlot_busy (s : State) : (s.byteSlot).busy = s.busy := rfl
@[simp] theorem State.byteSlot_opQ (s : State) : (s.byteSlot).opQ = s.opQ := rfl
@[simp] theorem State.byteSlot_addrQ (s : State) : (s.byteSlot).addrQ = s.addrQ := rfl
@[simp] theorem State.byteSlot_ctrlQ (s : State) : (s.byteSlot).ctrlQ = s.ctrlQ := rfl
@[simp] theorem State.byteSlot_lenQ (s : State) : (s.byteSlot).lenQ = s.lenQ := rfl
@[simp] theorem State.byteSlot_traceQ (s : State) : (s.byteSlot).traceQ = s.traceQ := rfl
@[simp] theorem State.byteSlot_wbuf (s : State) : (s.byteSlot).wbuf = s.wbuf := rfl
@[simp] theorem State.byteSlot_upc (s : State) : (s.byteSlot).upc = s.upc := rfl
@[simp] theorem State.byteSlot_waitCnt (s : State) : (s.byteSlot).waitCnt = s.waitCnt := rfl
@[simp] theorem State.byteSlot_failSeen (s : State) : (s.byteSlot).failSeen = s.failSeen := rfl
@[simp] theorem State.byteSlot_respValid (s : State) : (s.byteSlot).respValid = s.respValid := rfl
@[simp] theorem State.byteSlot_respStatus (s : State) : (s.byteSlot).respStatus = s.respStatus := rfl
@[simp] theorem State.byteSlot_respPresent (s : State) : (s.byteSlot).respPresent = s.respPresent := rfl
@[simp] theorem State.byteSlot_respLen (s : State) : (s.byteSlot).respLen = s.respLen := rfl
@[simp] theorem State.byteSlot_rdIdx (s : State) : (s.byteSlot).rdIdx = s.rdIdx := rfl
@[simp] theorem State.byteSlot_diagPort (s : State) : (s.byteSlot).diagPort = s.diagPort := rfl
@[simp] theorem State.byteSlot_bus (s : State) : (s.byteSlot).bus = s.bus := rfl
@[simp] theorem State.byteSlot_responses (s : State) : (s.byteSlot).responses = s.responses := rfl
@[simp] theorem State.byteSlot_rdataOut (s : State) : (s.byteSlot).rdataOut = s.rdataOut := rfl
@[simp] theorem State.byteSlot_diagLog (s : State) : (s.byteSlot).diagLog = s.diagLog := rfl

@[simp] theorem State.byteSlot_idx (s : State) : s.byteSlot.idx = s.idx + 1#17 := rfl

/-- The byte slot sends the byte the latches and the data give. -/
@[simp] theorem State.byteSlot_sent (s : State) : s.byteSlot.sent = s.sent ++ [s.txByte s.idx.toNat] := by
  simp [byteSlot, Channel.shiftByte_eq]

/-- A READ stores the bytes from offset 3 on, and nothing else does. -/
@[simp] theorem State.byteSlot_rbuf (s : State) : s.byteSlot.rbuf =
    if s.opQ = Device.OP_READ ∧ 3 ≤ s.idx.toNat then s.rbuf ++ [s.misoAt 0 s.idx.toNat] else s.rbuf := by
  simp [byteSlot, Channel.shiftByte_eq]

@[simp] theorem State.byteSlot_ch (s : State) : s.byteSlot.ch =
    ⟨s.ch.cs, false, (s.txByte s.idx.toNat).getLsbD 0, s.misoAt 0 s.idx.toNat, 0#3, s.ch.pulses + 8⟩ := by
  simp [byteSlot, Channel.shiftByte_eq]

/-! ### A run of byte slots -/

/-- What a run of byte slots can change: the channel, the bytes sent, the read buffer, `idx` and the failure bit. -/
theorem State.transfer_frame (n : Nat) : ∀ s : State, s.transfer n =
    { s with ch := (s.transfer n).ch, sent := (s.transfer n).sent, rbuf := (s.transfer n).rbuf,
             idx := (s.transfer n).idx, failSeen := (s.transfer n).failSeen } := by
  induction n with
  | zero => intro s; rfl
  | succ n ih =>
    intro s
    unfold transfer
    split
    · rfl
    · rw [ih s.sampleFail.byteSlot]; rfl

@[simp] theorem State.transfer_cfg (s : State) (n : Nat) : (s.transfer n).cfg = s.cfg := by rw [transfer_frame]
@[simp] theorem State.transfer_pins (s : State) (n : Nat) : (s.transfer n).pins = s.pins := by rw [transfer_frame]
@[simp] theorem State.transfer_pinScript (s : State) (n : Nat) : (s.transfer n).pinScript = s.pinScript := by rw [transfer_frame]
@[simp] theorem State.transfer_cmdIn (s : State) (n : Nat) : (s.transfer n).cmdIn = s.cmdIn := by rw [transfer_frame]
@[simp] theorem State.transfer_wdataIn (s : State) (n : Nat) : (s.transfer n).wdataIn = s.wdataIn := by rw [transfer_frame]
@[simp] theorem State.transfer_answers (s : State) (n : Nat) : (s.transfer n).answers = s.answers := by rw [transfer_frame]
@[simp] theorem State.transfer_exchNo (s : State) (n : Nat) : (s.transfer n).exchNo = s.exchNo := by rw [transfer_frame]
@[simp] theorem State.transfer_fsm (s : State) (n : Nat) : (s.transfer n).fsm = s.fsm := by rw [transfer_frame]
@[simp] theorem State.transfer_seqActive (s : State) (n : Nat) : (s.transfer n).seqActive = s.seqActive := by rw [transfer_frame]
@[simp] theorem State.transfer_busy (s : State) (n : Nat) : (s.transfer n).busy = s.busy := by rw [transfer_frame]
@[simp] theorem State.transfer_opQ (s : State) (n : Nat) : (s.transfer n).opQ = s.opQ := by rw [transfer_frame]
@[simp] theorem State.transfer_addrQ (s : State) (n : Nat) : (s.transfer n).addrQ = s.addrQ := by rw [transfer_frame]
@[simp] theorem State.transfer_ctrlQ (s : State) (n : Nat) : (s.transfer n).ctrlQ = s.ctrlQ := by rw [transfer_frame]
@[simp] theorem State.transfer_lenQ (s : State) (n : Nat) : (s.transfer n).lenQ = s.lenQ := by rw [transfer_frame]
@[simp] theorem State.transfer_traceQ (s : State) (n : Nat) : (s.transfer n).traceQ = s.traceQ := by rw [transfer_frame]
@[simp] theorem State.transfer_wbuf (s : State) (n : Nat) : (s.transfer n).wbuf = s.wbuf := by rw [transfer_frame]
@[simp] theorem State.transfer_upc (s : State) (n : Nat) : (s.transfer n).upc = s.upc := by rw [transfer_frame]
@[simp] theorem State.transfer_waitCnt (s : State) (n : Nat) : (s.transfer n).waitCnt = s.waitCnt := by rw [transfer_frame]
@[simp] theorem State.transfer_respValid (s : State) (n : Nat) : (s.transfer n).respValid = s.respValid := by rw [transfer_frame]
@[simp] theorem State.transfer_respStatus (s : State) (n : Nat) : (s.transfer n).respStatus = s.respStatus := by rw [transfer_frame]
@[simp] theorem State.transfer_respPresent (s : State) (n : Nat) : (s.transfer n).respPresent = s.respPresent := by rw [transfer_frame]
@[simp] theorem State.transfer_respLen (s : State) (n : Nat) : (s.transfer n).respLen = s.respLen := by rw [transfer_frame]
@[simp] theorem State.transfer_rdIdx (s : State) (n : Nat) : (s.transfer n).rdIdx = s.rdIdx := by rw [transfer_frame]
@[simp] theorem State.transfer_diagPort (s : State) (n : Nat) : (s.transfer n).diagPort = s.diagPort := by rw [transfer_frame]
@[simp] theorem State.transfer_bus (s : State) (n : Nat) : (s.transfer n).bus = s.bus := by rw [transfer_frame]
@[simp] theorem State.transfer_responses (s : State) (n : Nat) : (s.transfer n).responses = s.responses := by rw [transfer_frame]
@[simp] theorem State.transfer_rdataOut (s : State) (n : Nat) : (s.transfer n).rdataOut = s.rdataOut := by rw [transfer_frame]
@[simp] theorem State.transfer_diagLog (s : State) (n : Nat) : (s.transfer n).diagLog = s.diagLog := by rw [transfer_frame]

/-- The rest of the frame: the bytes of the slots `i .. i+n`. -/
def State.txBytes (s : State) (i n : Nat) : List Byte := (List.range' i n).map s.txByte

/-- A run of `n` byte slots sends the first `m` of them, all of them unless the exchange fails. -/
theorem State.transfer_sent (n : Nat) : ∀ s : State, s.idx.toNat + n < 2 ^ 17 →
    ∃ m, m ≤ n ∧ (s.transfer n).sent = s.sent ++ s.txBytes s.idx.toNat m ∧
      (s.transfer n).idx.toNat = s.idx.toNat + m ∧ (s.transfer n).ch.pulses = s.ch.pulses + 8 * m ∧
      ((s.transfer n).failSeen = false → m = n) := by
  induction n with
  | zero => intro s _; exact ⟨0, by simp [transfer, txBytes]⟩
  | succ n ih =>
    intro s hs
    unfold transfer
    split
    · rename_i he
      refine ⟨0, by simp, by simp [txBytes], by simp, by simp, fun h => ?_⟩
      simp [stopsEarly, h, -sampleFail_failSeen] at he
    · have hi : s.sampleFail.byteSlot.idx.toNat = s.idx.toNat + 1 := by
        simp only [byteSlot_idx, sampleFail_idx, BitVec.toNat_add, BitVec.toNat_ofNat]
        omega
      obtain ⟨m, hm, h1, h2, h3, h4⟩ := ih s.sampleFail.byteSlot (by omega)
      refine ⟨m + 1, by omega, ?_, by omega, ?_, fun h => by rw [h4 h]⟩
      · rw [h1, hi]
        have e : s.sampleFail.byteSlot.txBytes (s.idx.toNat + 1) m = s.txBytes (s.idx.toNat + 1) m := rfl
        rw [e]
        simp only [byteSlot_sent, sampleFail_sent, sampleFail_idx, txBytes, List.range'_succ, List.map_cons,
          List.append_assoc, List.singleton_append]
        rfl
      · rw [h3]
        simp
        omega

/-- A run of `n` byte slots sees `chan_fail` exactly if it is 1 in one of them (or was seen before). -/
theorem State.transfer_failSeen (n : Nat) : ∀ s : State, s.idx.toNat + n < 2 ^ 17 →
    (s.transfer n).failSeen = (s.failSeen ||
      (s.answerAt 0).failSlot.any (fun f => decide (s.idx.toNat ≤ f ∧ f < s.idx.toNat + n))) := by
  induction n with
  | zero =>
    intro s _
    have : ∀ f, ¬ (s.idx.toNat ≤ f ∧ f < s.idx.toNat) := fun f h => by omega
    cases (s.answerAt 0).failSlot <;> simp [transfer, this]
  | succ n ih =>
    intro s hs
    have hi : s.sampleFail.byteSlot.idx.toNat = s.idx.toNat + 1 := by
      simp only [byteSlot_idx, sampleFail_idx, BitVec.toNat_add, BitVec.toNat_ofNat]
      omega
    have ha : s.sampleFail.byteSlot.answerAt 0 = s.answerAt 0 := rfl
    unfold transfer
    split
    · rename_i he
      simp only [stopsEarly, Bool.and_eq_true, sampleFail_failSeen] at he ⊢
      rw [he.1]
      cases hs' : s.failSeen with
      | true => simp
      | false =>
        have h1 := he.1
        rw [hs', Bool.false_or, beq_iff_eq] at h1
        simp [h1]
    · rw [ih _ (by omega), hi, ha]
      simp only [byteSlot_failSeen, sampleFail_failSeen]
      cases (s.answerAt 0).failSlot with
      | none => simp
      | some f =>
        rw [Bool.eq_iff_iff]
        simp only [Option.any_some, Bool.or_eq_true, beq_iff_eq, Option.some.injEq, decide_eq_true_eq, or_assoc]
        refine or_congr Iff.rfl ?_
        omega

/-- Without a failure a READ stores exactly the bytes of the slots from 3 on. -/
theorem State.transfer_rbuf (n : Nat) : ∀ s : State, s.idx.toNat + n < 2 ^ 17 → (s.transfer n).failSeen = false →
    (s.transfer n).rbuf = s.rbuf ++
      (if s.opQ = Device.OP_READ then
        ((List.range' s.idx.toNat n).filter (fun i => decide (3 ≤ i))).map (s.misoAt 0) else []) := by
  induction n with
  | zero => intro s _ _; simp [transfer]
  | succ n ih =>
    intro s hs hf
    have hi : s.sampleFail.byteSlot.idx.toNat = s.idx.toNat + 1 := by
      simp only [byteSlot_idx, sampleFail_idx, BitVec.toNat_add, BitVec.toNat_ofNat]
      omega
    unfold transfer at hf ⊢
    split at hf
    · rename_i he
      simp [stopsEarly, hf, -sampleFail_failSeen] at he
    · rename_i he
      simp only [he]
      rw [if_neg (by simp), ih _ (by omega) hf, hi]
      have e : s.sampleFail.byteSlot.misoAt 0 = s.misoAt 0 := rfl
      have e' : s.sampleFail.misoAt 0 = s.misoAt 0 := rfl
      simp only [byteSlot_rbuf, sampleFail_opQ, sampleFail_idx, sampleFail_rbuf, byteSlot_opQ, e, e', List.range'_succ]
      by_cases ho : s.opQ = Device.OP_READ
      · by_cases h3 : 3 ≤ s.idx.toNat <;> simp [ho, h3]
      · simp [ho]

/-- The pins rest after a run of byte slots, and chip-select has not moved. -/
theorem State.transfer_rest (n : Nat) : ∀ s : State, s.ch.sclk = false → s.ch.bitCnt = 0#3 →
    (s.transfer n).ch.cs = s.ch.cs ∧ (s.transfer n).ch.sclk = false ∧ (s.transfer n).ch.bitCnt = 0#3 := by
  induction n with
  | zero => intro s h1 h2; exact ⟨rfl, h1, h2⟩
  | succ n ih =>
    intro s h1 h2
    unfold transfer
    split
    · exact ⟨rfl, h1, h2⟩
    · obtain ⟨a, b, c⟩ := ih s.sampleFail.byteSlot (by simp) (by simp)
      exact ⟨by simpa using a, b, c⟩

/-- Chip-select does not move during a run of byte slots. -/
@[simp] theorem State.transfer_cs (n : Nat) : ∀ s : State, (s.transfer n).ch.cs = s.ch.cs := by
  induction n with
  | zero => intro s; rfl
  | succ n ih =>
    intro s
    unfold transfer
    split
    · rfl
    · rw [ih]; simp

/-! ### The exchange -/

@[simp] theorem State.finishExchange_cfg (s : State) : (s.finishExchange).cfg = s.cfg := by simp [finishExchange]
@[simp] theorem State.finishExchange_pins (s : State) : (s.finishExchange).pins = s.pins := by simp [finishExchange]
@[simp] theorem State.finishExchange_pinScript (s : State) : (s.finishExchange).pinScript = s.pinScript := by simp [finishExchange]
@[simp] theorem State.finishExchange_cmdIn (s : State) : (s.finishExchange).cmdIn = s.cmdIn := by simp [finishExchange]
@[simp] theorem State.finishExchange_wdataIn (s : State) : (s.finishExchange).wdataIn = s.wdataIn := by simp [finishExchange]
@[simp] theorem State.finishExchange_fsm (s : State) : (s.finishExchange).fsm = s.fsm := by simp [finishExchange]
@[simp] theorem State.finishExchange_seqActive (s : State) : (s.finishExchange).seqActive = s.seqActive := by simp [finishExchange]
@[simp] theorem State.finishExchange_busy (s : State) : (s.finishExchange).busy = s.busy := by simp [finishExchange]
@[simp] theorem State.finishExchange_opQ (s : State) : (s.finishExchange).opQ = s.opQ := by simp [finishExchange]
@[simp] theorem State.finishExchange_addrQ (s : State) : (s.finishExchange).addrQ = s.addrQ := by simp [finishExchange]
@[simp] theorem State.finishExchange_ctrlQ (s : State) : (s.finishExchange).ctrlQ = s.ctrlQ := by simp [finishExchange]
@[simp] theorem State.finishExchange_lenQ (s : State) : (s.finishExchange).lenQ = s.lenQ := by simp [finishExchange]
@[simp] theorem State.finishExchange_traceQ (s : State) : (s.finishExchange).traceQ = s.traceQ := by simp [finishExchange]
@[simp] theorem State.finishExchange_wbuf (s : State) : (s.finishExchange).wbuf = s.wbuf := by simp [finishExchange]
@[simp] theorem State.finishExchange_upc (s : State) : (s.finishExchange).upc = s.upc := by simp [finishExchange]
@[simp] theorem State.finishExchange_waitCnt (s : State) : (s.finishExchange).waitCnt = s.waitCnt := by simp [finishExchange]
@[simp] theorem State.finishExchange_respValid (s : State) : (s.finishExchange).respValid = s.respValid := by simp [finishExchange]
@[simp] theorem State.finishExchange_respStatus (s : State) : (s.finishExchange).respStatus = s.respStatus := by simp [finishExchange]
@[simp] theorem State.finishExchange_respPresent (s : State) : (s.finishExchange).respPresent = s.respPresent := by simp [finishExchange]
@[simp] theorem State.finishExchange_respLen (s : State) : (s.finishExchange).respLen = s.respLen := by simp [finishExchange]
@[simp] theorem State.finishExchange_rdIdx (s : State) : (s.finishExchange).rdIdx = s.rdIdx := by simp [finishExchange]
@[simp] theorem State.finishExchange_diagPort (s : State) : (s.finishExchange).diagPort = s.diagPort := by simp [finishExchange]
@[simp] theorem State.finishExchange_responses (s : State) : (s.finishExchange).responses = s.responses := by simp [finishExchange]
@[simp] theorem State.finishExchange_rdataOut (s : State) : (s.finishExchange).rdataOut = s.rdataOut := by simp [finishExchange]
@[simp] theorem State.finishExchange_diagLog (s : State) : (s.finishExchange).diagLog = s.diagLog := by simp [finishExchange]

@[simp] theorem State.exchange_cfg (s : State) : (s.exchange).cfg = s.cfg := by simp [exchange]
@[simp] theorem State.exchange_pins (s : State) : (s.exchange).pins = s.pins := by simp [exchange]
@[simp] theorem State.exchange_pinScript (s : State) : (s.exchange).pinScript = s.pinScript := by simp [exchange]
@[simp] theorem State.exchange_cmdIn (s : State) : (s.exchange).cmdIn = s.cmdIn := by simp [exchange]
@[simp] theorem State.exchange_wdataIn (s : State) : (s.exchange).wdataIn = s.wdataIn := by simp [exchange]
@[simp] theorem State.exchange_seqActive (s : State) : (s.exchange).seqActive = s.seqActive := by simp [exchange]
@[simp] theorem State.exchange_busy (s : State) : (s.exchange).busy = s.busy := by simp [exchange]
@[simp] theorem State.exchange_opQ (s : State) : (s.exchange).opQ = s.opQ := by simp [exchange]
@[simp] theorem State.exchange_addrQ (s : State) : (s.exchange).addrQ = s.addrQ := by simp [exchange]
@[simp] theorem State.exchange_ctrlQ (s : State) : (s.exchange).ctrlQ = s.ctrlQ := by simp [exchange]
@[simp] theorem State.exchange_lenQ (s : State) : (s.exchange).lenQ = s.lenQ := by simp [exchange]
@[simp] theorem State.exchange_traceQ (s : State) : (s.exchange).traceQ = s.traceQ := by simp [exchange]
@[simp] theorem State.exchange_wbuf (s : State) : (s.exchange).wbuf = s.wbuf := by simp [exchange]
@[simp] theorem State.exchange_upc (s : State) : (s.exchange).upc = s.upc := by simp [exchange]
@[simp] theorem State.exchange_waitCnt (s : State) : (s.exchange).waitCnt = s.waitCnt := by simp [exchange]
@[simp] theorem State.exchange_respValid (s : State) : (s.exchange).respValid = s.respValid := by simp [exchange]
@[simp] theorem State.exchange_respStatus (s : State) : (s.exchange).respStatus = s.respStatus := by simp [exchange]
@[simp] theorem State.exchange_respPresent (s : State) : (s.exchange).respPresent = s.respPresent := by simp [exchange]
@[simp] theorem State.exchange_respLen (s : State) : (s.exchange).respLen = s.respLen := by simp [exchange]
@[simp] theorem State.exchange_rdIdx (s : State) : (s.exchange).rdIdx = s.rdIdx := by simp [exchange]
@[simp] theorem State.exchange_diagPort (s : State) : (s.exchange).diagPort = s.diagPort := by simp [exchange]
@[simp] theorem State.exchange_responses (s : State) : (s.exchange).responses = s.responses := by simp [exchange]
@[simp] theorem State.exchange_rdataOut (s : State) : (s.exchange).rdataOut = s.rdataOut := by simp [exchange]
@[simp] theorem State.exchange_diagLog (s : State) : (s.exchange).diagLog = s.diagLog := by simp [exchange]

@[simp] theorem State.exchange_fsm (s : State) : s.exchange.fsm = .xfer := by simp [exchange]
@[simp] theorem State.exchange_answers (s : State) : s.exchange.answers = s.answers.tail := by
  simp [exchange, finishExchange]
@[simp] theorem State.exchange_exchNo (s : State) : s.exchange.exchNo = s.exchNo + 1 := by
  simp [exchange, finishExchange]

/-- The frame of a command fits into `idx` (10_state.md R24). -/
theorem State.frameLen_lt (s : State) : s.frameLen < 2 ^ 17 := by
  have := s.lenQ.isLt
  simp only [frameLen]
  omega

@[simp] theorem State.beginExchange_txBytes (s : State) (i n : Nat) : s.beginExchange.txBytes i n = s.txBytes i n := rfl

theorem State.exchange_eq (s : State) :
    s.exchange = (s.beginExchange.transfer s.frameLen).closeExchange := rfl

/-- Chip-select is released at the end of every exchange (10_state.md R30). -/
@[simp] theorem State.exchange_cs (s : State) : s.exchange.ch.cs = false := rfl

/-- The pins rest after an exchange. -/
theorem State.exchange_rest (s : State) (h1 : s.ch.sclk = false) (h2 : s.ch.bitCnt = 0#3) :
    s.exchange.ch.sclk = false ∧ s.exchange.ch.bitCnt = 0#3 := by
  obtain ⟨-, b, c⟩ := State.transfer_rest s.frameLen s.beginExchange (by simpa using h1) (by simpa using h2)
  exact ⟨by rw [exchange_eq]; simpa using b, by rw [exchange_eq]; simpa using c⟩

/-- After a successful exchange `sclk` is low, whatever it was before. -/
theorem State.exchange_sclk (s : State) (h : s.exchange.failSeen = false) : s.exchange.ch.sclk = false := by
  have hl : s.frameLen = (2 + s.lenQ.toNat) + 1 := by simp only [frameLen]; omega
  rw [exchange_eq, closeExchange_failSeen, hl, transfer] at h
  rw [exchange_eq, closeExchange_ch, hl, transfer]
  split at h
  · rename_i he
    simp [stopsEarly, h, -sampleFail_failSeen] at he
  · rename_i he
    rw [if_neg he]
    exact (State.transfer_rest _ s.beginExchange.sampleFail.byteSlot (by simp) (by simp)).2.1

/-- The outcome of an exchange: it fails exactly if `chan_fail` is 1 while chip-select is asserted (20_memory.md R69). -/
@[simp] theorem State.exchange_failSeen (s : State) : s.exchange.failSeen = s.failsAt 0 s.frameLen := by
  rw [exchange_eq, closeExchange_failSeen, transfer_failSeen _ _ (by simpa using s.frameLen_lt)]
  have : s.beginExchange.answerAt 0 = s.answerAt 0 := rfl
  simp [failsAt, this]

/-- The bytes an exchange puts on the wire: the whole frame, or if it fails some first part of it (40_transport.md
R118). -/
theorem State.exchange_sent (s : State) :
    ∃ m, m ≤ s.frameLen ∧ s.exchange.sent = s.txBytes 0 m ∧ s.exchange.idx.toNat = m ∧
      s.exchange.ch.pulses = s.ch.pulses + 8 * m ∧ (s.failsAt 0 s.frameLen = false → m = s.frameLen) := by
  obtain ⟨m, hm, h1, h2, h3, h4⟩ := State.transfer_sent s.frameLen s.beginExchange (by simpa using s.frameLen_lt)
  refine ⟨m, hm, ?_, ?_, ?_, ?_⟩
  · rw [exchange_eq]; simpa using h1
  · rw [exchange_eq]; simpa using h2
  · rw [exchange_eq]; simpa using h3
  · intro h
    rw [← exchange_failSeen, exchange_eq] at h
    exact h4 h

/-- The bytes sent by a successful exchange are the whole frame. -/
theorem State.exchange_sent_ok (s : State) (h : s.failsAt 0 s.frameLen = false) :
    s.exchange.sent = s.txBytes 0 s.frameLen := by
  obtain ⟨m, -, h1, -, -, h4⟩ := s.exchange_sent
  rw [h1, h4 h]

/-- A successful exchange takes eight pulses a byte and leaves `sclk` low (30_encoding.md R86). -/
theorem State.exchange_pulses_ok (s : State) (h : s.failsAt 0 s.frameLen = false) :
    s.exchange.ch.pulses = s.ch.pulses + 8 * s.frameLen ∧ s.exchange.ch.sclk = false ∧
      s.exchange.idx.toNat = s.frameLen := by
  obtain ⟨m, -, -, h3, h4, h5⟩ := s.exchange_sent
  obtain rfl := h5 h
  exact ⟨h4, s.exchange_sclk (by simpa using h), h3⟩

/-- Exactly one exchange appears in the bus history (40_transport.md R112). -/
@[simp] theorem State.exchange_bus (s : State) :
    s.exchange.bus = s.bus ++ [.exchange s.exchange.sent (!s.failsAt 0 s.frameLen)] := by
  rw [← exchange_failSeen]
  simp [exchange_eq]

/-- The read buffer after an exchange: nothing after a failure or for a WRITE, the bytes from offset 3 on for a READ
(10_state.md R23, 40_transport.md R110). -/
theorem State.exchange_rbuf (s : State) : s.exchange.rbuf =
    if s.failsAt 0 s.frameLen = false ∧ s.opQ = Device.OP_READ then s.misoBytes 0 3 s.lenQ.toNat else [] := by
  have hf := s.exchange_failSeen
  rw [exchange_eq, closeExchange_failSeen] at hf
  rw [exchange_eq, closeExchange_rbuf, hf]
  rcases h : s.failsAt 0 s.frameLen with _ | _
  · rw [h] at hf
    rw [if_neg (by simp), State.transfer_rbuf _ _ (by simpa using s.frameLen_lt) hf]
    have e : s.beginExchange.misoAt 0 = s.misoAt 0 := rfl
    simp only [beginExchange_rbuf, List.nil_append, beginExchange_opQ, beginExchange_idx, e, frameLen, true_and]
    by_cases ho : s.opQ = Device.OP_READ
    · simp only [ho, if_true, misoBytes]
      have h0 : (0#17).toNat = 0 := rfl
      rw [h0, show 3 + s.lenQ.toNat = 3 + s.lenQ.toNat from rfl, ← List.range'_append_1 (s := 0) (m := 3)]
      have h1 : (List.range' 0 3).filter (fun i => decide (3 ≤ i)) = [] := by decide
      have h2 : (List.range' (0 + 3) s.lenQ.toNat).filter (fun i => decide (3 ≤ i)) =
          List.range' (0 + 3) s.lenQ.toNat := by
        rw [List.filter_eq_self]
        intro a ha
        simp at ha ⊢
        omega
      rw [List.filter_append, h1, h2, List.nil_append, List.range'_eq_map_range, List.map_map]
      rfl
    · simp [ho]
  · simp

/-- The frame of a READ (30_encoding.md R82). -/
theorem State.txBytes_read (s : State) (h : s.opQ = Device.OP_READ) :
    s.txBytes 0 s.frameLen = readFrame s.addrQ s.ctrlQ s.lenQ.toNat := by
  have hz : ∀ k, s.txByte (3 + k) = 0x00#8 := by
    intro k
    have h1 : ¬ 3 + k = 1 := by omega
    have h2 : ¬ 3 + k = 2 := by omega
    have h3 : ¬ Device.OP_READ = Device.OP_WRITE := by decide
    simp [txByte, h, h1, h2, h3]
  rw [txBytes, frameLen, ← List.range'_append_1, List.map_append, List.range'_eq_map_range (s := 0 + 3), List.map_map]
  have : (s.txByte ∘ fun x => 0 + 3 + x) = fun _ => 0x00#8 := by
    funext k
    simpa using hz k
  rw [this, List.map_const', List.length_range]
  rfl

/-- The frame of a WRITE whose data is all there (30_encoding.md R83). -/
theorem State.txBytes_write (s : State) (h : s.opQ = Device.OP_WRITE) (hl : s.payload.length = s.lenQ.toNat) :
    s.txBytes 0 s.frameLen = writeFrame s.addrQ s.ctrlQ s.payload := by
  rw [txBytes, frameLen, ← List.range'_append_1, List.map_append, List.range'_eq_map_range (s := 0 + 3), List.map_map]
  have : (List.range s.lenQ.toNat).map (s.txByte ∘ fun x => 0 + 3 + x) = s.payload := by
    apply List.ext_getElem
    · simp [hl]
    · intro i h1 h2
      have e1 : ¬ 3 + i = 1 := by omega
      have e2 : ¬ 3 + i = 2 := by omega
      have h1' : i < s.lenQ.toNat := by simpa using h1
      have h2' : i < s.payload.length := by omega
      simp [txByte, h, e1, e2, List.getElem?_eq_getElem h2']
  rw [this]
  rfl

/-- The bytes of a first part of the frame are a first part of the frame's bytes. -/
theorem State.txBytes_take (s : State) (m n : Nat) (h : m ≤ n) : s.txBytes 0 m = (s.txBytes 0 n).take m := by
  obtain ⟨k, rfl⟩ := Nat.exists_eq_add_of_le h
  rw [txBytes, txBytes, ← List.range'_append_1, List.map_append, List.take_left']
  simp

/-! ### A part of an exchange -/

/-- As many pulses as bits. -/
theorem Channel.shiftBits_pulses (ms : List Bool) : ∀ ch : Channel, (ch.shiftBits ms).2.pulses = ch.pulses + ms.length := by
  induction ms with
  | nil => intro ch; rfl
  | cons m ms ih => intro ch; simp only [shiftBits, ih, drive, rise, fall, List.length_cons]; omega

/-- The first pulses put the first bits on `mosi`. -/
theorem Channel.shiftBits_take (ms : List Bool) : ∀ (m : Nat) (ch : Channel),
    (ch.shiftBits (ms.take m)).1 = (ch.shiftBits ms).1.take m := by
  induction ms with
  | nil => intro m ch; simp [shiftBits]
  | cons b ms ih =>
    intro m ch
    cases m with
    | zero => rfl
    | succ m => simp only [List.take_succ_cons, shiftBits, ih]

/-- The first `m` pulses of a byte slot put the first `m` bits of the byte on `mosi`. -/
theorem State.partSlot_eq (s : State) (m : Nat) (h : m ≤ 8) :
    (s.partSlot m).1 = (bitsOf (s.txByte s.idx.toNat)).take m ∧ (s.partSlot m).2.pulses = s.ch.pulses + m := by
  constructor
  · rw [partSlot, Channel.shiftBits_take, Channel.shiftBits_bitsOf]; rfl
  · rw [partSlot, Channel.shiftBits_pulses, List.length_take]
    have : (bitsOf (s.misoAt 0 s.idx.toNat)).length = 8 := rfl
    rw [this, Nat.min_eq_left h]
    rfl

/-- No bit moves chip-select. -/
theorem Channel.shiftBits_cs (ms : List Bool) : ∀ ch : Channel, (ch.shiftBits ms).2.cs = ch.cs := by
  induction ms with
  | nil => intro ch; rfl
  | cons m ms ih => intro ch; simp only [shiftBits, ih]; rfl

@[simp] theorem State.partSlot_cs (s : State) (m : Nat) : (s.partSlot m).2.cs = s.ch.cs := Channel.shiftBits_cs _ _

/-- Once the engine has stopped it stays stopped. -/
theorem State.stopsBy_mono (s : State) (k l : Nat) (hkl : k ≤ l) (h : s.stopsBy k = true) : s.stopsBy l = true := by
  unfold stopsBy at *
  cases hf : (s.answerAt 0).failSlot with
  | none => simp [hf] at h
  | some f => simp [hf] at h ⊢; omega

/-- A run of `n` byte slots, of an exchange whose failure so far has been seen: the engine has stopped by its end exactly as
`stopsBy` says, and otherwise all `n` bytes have gone out. -/
theorem State.transfer_stops (n : Nat) : ∀ s : State, s.idx.toNat + n < 2 ^ 17 →
    s.failSeen = (s.answerAt 0).failSlot.any (fun f => decide (f < s.idx.toNat)) →
    (s.transfer n).sampleFail.stopsEarly = s.stopsBy (s.idx.toNat + n) ∧
    (s.stopsBy (s.idx.toNat + n) = false →
      (s.transfer n).sent = s.sent ++ s.txBytes s.idx.toNat n ∧ (s.transfer n).idx.toNat = s.idx.toNat + n ∧
      (s.transfer n).ch.pulses = s.ch.pulses + 8 * n) := by
  have stop : ∀ s : State, s.failSeen = (s.answerAt 0).failSlot.any (fun f => decide (f < s.idx.toNat)) →
      s.sampleFail.stopsEarly = s.stopsBy s.idx.toNat := by
    intro s h
    have ha : s.sampleFail.answerAt 0 = s.answerAt 0 := rfl
    simp only [stopsEarly, stopsBy, sampleFail_failSeen, sampleFail_idx, ha, h]
    congr 1
    cases (s.answerAt 0).failSlot with
    | none => rfl
    | some f =>
      rw [Bool.eq_iff_iff]
      simp only [Option.any_some, Bool.or_eq_true, decide_eq_true_eq, beq_iff_eq, Option.some.injEq]
      omega
  induction n with
  | zero => intro s _ h; exact ⟨stop s h, fun _ => by simp [transfer, txBytes]⟩
  | succ n ih =>
    intro s hs h
    have hi : s.sampleFail.byteSlot.idx.toNat = s.idx.toNat + 1 := by
      simp only [byteSlot_idx, sampleFail_idx, BitVec.toNat_add, BitVec.toNat_ofNat]
      omega
    have ha : s.sampleFail.byteSlot.answerAt 0 = s.answerAt 0 := rfl
    have hstop : ∀ k, s.sampleFail.byteSlot.stopsBy k = s.stopsBy k := fun k => rfl
    unfold transfer
    split
    · rename_i he
      have h1 := s.stopsBy_mono _ (s.idx.toNat + (n + 1)) (by omega) ((stop s h).symm.trans he)
      refine ⟨?_, fun hn => by rw [h1] at hn; cases hn⟩
      have : s.sampleFail.sampleFail.stopsEarly = s.sampleFail.stopsEarly := by
        simp [stopsEarly, answerAt]
      rw [this, he, h1]
    · have hf : s.sampleFail.byteSlot.failSeen = (s.sampleFail.byteSlot.answerAt 0).failSlot.any
          (fun f => decide (f < s.sampleFail.byteSlot.idx.toNat)) := by
        rw [ha, hi, byteSlot_failSeen, sampleFail_failSeen, h]
        cases (s.answerAt 0).failSlot with
        | none => rfl
        | some f =>
          rw [Bool.eq_iff_iff]
          simp only [Option.any_some, Bool.or_eq_true, decide_eq_true_eq, beq_iff_eq, Option.some.injEq]
          omega
      obtain ⟨h1, h2⟩ := ih _ (by omega) hf
      rw [hi, hstop, show s.idx.toNat + 1 + n = s.idx.toNat + (n + 1) by omega] at h1 h2
      refine ⟨h1, fun hn => ?_⟩
      obtain ⟨a, b, c⟩ := h2 hn
      refine ⟨?_, b, ?_⟩
      · rw [a]
        have e : s.sampleFail.byteSlot.txBytes (s.idx.toNat + 1) n = s.txBytes (s.idx.toNat + 1) n := rfl
        rw [e]
        simp only [byteSlot_sent, sampleFail_sent, sampleFail_idx, txBytes, List.range'_succ, List.map_cons,
          List.append_assoc, List.singleton_append]
        rfl
      · rw [c]
        simp
        omega

/-- The state of an exchange after `n` pulses. -/
theorem State.afterPulses_begin (s : State) (n : Nat) (h : n / 8 < 2 ^ 17) :
    (s.beginExchange.afterPulses n).stopsEarly = s.stopsBy (n / 8) ∧
    (s.stopsBy (n / 8) = false →
      (s.beginExchange.afterPulses n).sent = s.txBytes 0 (n / 8) ∧
      (s.beginExchange.afterPulses n).idx.toNat = n / 8 ∧
      (s.beginExchange.afterPulses n).ch.pulses = s.ch.pulses + 8 * (n / 8)) := by
  have h0 : s.beginExchange.idx.toNat = 0 := rfl
  have hf : s.beginExchange.failSeen = (s.beginExchange.answerAt 0).failSlot.any
      (fun f => decide (f < s.beginExchange.idx.toNat)) := by
    cases (s.beginExchange.answerAt 0).failSlot <;> simp
  obtain ⟨a, b⟩ := State.transfer_stops (n / 8) s.beginExchange (by omega) hf
  rw [h0, Nat.zero_add] at a b
  exact ⟨a, fun hn => by simpa [afterPulses] using b hn⟩

@[simp] theorem State.afterPulses_cs (s : State) (n : Nat) : (s.afterPulses n).ch.cs = s.ch.cs := by simp [afterPulses]

/-- A byte of a WRITE's or READ's frame is the one at its place. -/
theorem State.txBytes_getD (s : State) (n k : Nat) (h : k < n) : (s.txBytes 0 n).getD k 0x00#8 = s.txByte k := by
  simp [txBytes, List.getD_eq_getElem?_getD, h]

end Sys2Proof.Machine
end

