-- ==== Sys2Proof/Laws/Ops.lean ====
section
/-! SUPPORT. What each shared operation can do, one lemma an operation: the oracle is untouched by what does not perform
an exchange, events change the diagnostic port alone, a single READ or WRITE settles with exactly one response, and an
exchange with freshly latched operands has a closed form. -/

namespace Sys2Proof.Machine

open Sys2Proof

/-! ### The oracle -/

@[simp] theorem State.accept_misoAt (s : State) (j i : Nat) : (s.accept).misoAt j i = s.misoAt j i := rfl
@[simp] theorem State.accept_failsAt (s : State) (j n : Nat) : (s.accept).failsAt j n = s.failsAt j n := rfl
@[simp] theorem State.accept_rstCuts (s : State) (n : Nat) : (s.accept).rstCuts n = s.rstCuts n := rfl
@[simp] theorem State.accept_misoBytes (s : State) (j i n : Nat) : (s.accept).misoBytes j i n = s.misoBytes j i n := rfl
@[simp] theorem State.latch_misoAt (s : State) (op : Byte) (a : Half) (c : Byte) (l : Half) (j i : Nat) : (s.latch op a c l).misoAt j i = s.misoAt j i := rfl
@[simp] theorem State.latch_failsAt (s : State) (op : Byte) (a : Half) (c : Byte) (l : Half) (j n : Nat) : (s.latch op a c l).failsAt j n = s.failsAt j n := rfl
@[simp] theorem State.latch_rstCuts (s : State) (op : Byte) (a : Half) (c : Byte) (l : Half) (n : Nat) : (s.latch op a c l).rstCuts n = s.rstCuts n := rfl
@[simp] theorem State.latch_misoBytes (s : State) (op : Byte) (a : Half) (c : Byte) (l : Half) (j i n : Nat) : (s.latch op a c l).misoBytes j i n = s.misoBytes j i n := rfl
@[simp] theorem State.atMicroStep_misoAt (s : State) (k : Upc) (j i : Nat) : (s.atMicroStep k).misoAt j i = s.misoAt j i := rfl
@[simp] theorem State.atMicroStep_failsAt (s : State) (k : Upc) (j n : Nat) : (s.atMicroStep k).failsAt j n = s.failsAt j n := rfl
@[simp] theorem State.atMicroStep_rstCuts (s : State) (k : Upc) (n : Nat) : (s.atMicroStep k).rstCuts n = s.rstCuts n := rfl
@[simp] theorem State.atMicroStep_misoBytes (s : State) (k : Upc) (j i n : Nat) : (s.atMicroStep k).misoBytes j i n = s.misoBytes j i n := rfl
@[simp] theorem State.enterLoad_misoAt (s : State) (j i : Nat) : (s.enterLoad).misoAt j i = s.misoAt j i := rfl
@[simp] theorem State.enterLoad_failsAt (s : State) (j n : Nat) : (s.enterLoad).failsAt j n = s.failsAt j n := rfl
@[simp] theorem State.enterLoad_rstCuts (s : State) (n : Nat) : (s.enterLoad).rstCuts n = s.rstCuts n := rfl
@[simp] theorem State.enterLoad_misoBytes (s : State) (j i n : Nat) : (s.enterLoad).misoBytes j i n = s.misoBytes j i n := rfl
@[simp] theorem State.collect_misoAt (s : State) (j i : Nat) : (s.collect).misoAt j i = s.misoAt j i := rfl
@[simp] theorem State.collect_failsAt (s : State) (j n : Nat) : (s.collect).failsAt j n = s.failsAt j n := rfl
@[simp] theorem State.collect_rstCuts (s : State) (n : Nat) : (s.collect).rstCuts n = s.rstCuts n := rfl
@[simp] theorem State.collect_misoBytes (s : State) (j i n : Nat) : (s.collect).misoBytes j i n = s.misoBytes j i n := rfl
@[simp] theorem State.clearDiag_misoAt (s : State) (j i : Nat) : (s.clearDiag).misoAt j i = s.misoAt j i := rfl
@[simp] theorem State.clearDiag_failsAt (s : State) (j n : Nat) : (s.clearDiag).failsAt j n = s.failsAt j n := rfl
@[simp] theorem State.clearDiag_rstCuts (s : State) (n : Nat) : (s.clearDiag).rstCuts n = s.rstCuts n := rfl
@[simp] theorem State.clearDiag_misoBytes (s : State) (j i n : Nat) : (s.clearDiag).misoBytes j i n = s.misoBytes j i n := rfl
@[simp] theorem State.enterWait_misoAt (s : State) (j i : Nat) : (s.enterWait).misoAt j i = s.misoAt j i := rfl
@[simp] theorem State.enterWait_failsAt (s : State) (j n : Nat) : (s.enterWait).failsAt j n = s.failsAt j n := rfl
@[simp] theorem State.enterWait_rstCuts (s : State) (n : Nat) : (s.enterWait).rstCuts n = s.rstCuts n := rfl
@[simp] theorem State.enterWait_misoBytes (s : State) (j i n : Nat) : (s.enterWait).misoBytes j i n = s.misoBytes j i n := rfl

/-- An exchange uses up one answer: what was `j + 1` exchanges ahead is `j` ahead now. -/
theorem State.answerAt_succ (s t : State) (j : Nat) (ha : t.answers = s.answers.tail) (hn : t.exchNo = s.exchNo + 1) :
    t.answerAt j = s.answerAt (j + 1) := by
  simp [answerAt, ha, hn, Nat.add_assoc, Nat.add_comm 1 j, List.getD_eq_getElem?_getD]

theorem State.misoAt_succ (s t : State) (j i : Nat) (ha : t.answers = s.answers.tail) (hn : t.exchNo = s.exchNo + 1) :
    t.misoAt j i = s.misoAt (j + 1) i := by
  simp [misoAt, State.answerAt_succ s t j ha hn, hn, Nat.add_assoc, Nat.add_comm 1 j]

theorem State.failsAt_succ (s t : State) (j n : Nat) (ha : t.answers = s.answers.tail) (hn : t.exchNo = s.exchNo + 1) :
    t.failsAt j n = s.failsAt (j + 1) n := by
  simp [failsAt, State.answerAt_succ s t j ha hn]

theorem State.misoAt_congr (s t : State) (j i : Nat) (ha : t.answers = s.answers) (hn : t.exchNo = s.exchNo) :
    t.misoAt j i = s.misoAt j i := by simp [misoAt, answerAt, ha, hn]

theorem State.failsAt_congr (s t : State) (j n : Nat) (ha : t.answers = s.answers) (hn : t.exchNo = s.exchNo) :
    t.failsAt j n = s.failsAt j n := by simp [failsAt, answerAt, ha, hn]

/-! ### Diagnostic events -/

@[simp] theorem State.emit_cfg (s : State) (e : DiagEvent) : (s.emit e).cfg = s.cfg := by unfold emit; split <;> rfl
@[simp] theorem State.emit_pins (s : State) (e : DiagEvent) : (s.emit e).pins = s.pins := by unfold emit; split <;> rfl
@[simp] theorem State.emit_pinScript (s : State) (e : DiagEvent) : (s.emit e).pinScript = s.pinScript := by unfold emit; split <;> rfl
@[simp] theorem State.emit_cmdIn (s : State) (e : DiagEvent) : (s.emit e).cmdIn = s.cmdIn := by unfold emit; split <;> rfl
@[simp] theorem State.emit_wdataIn (s : State) (e : DiagEvent) : (s.emit e).wdataIn = s.wdataIn := by unfold emit; split <;> rfl
@[simp] theorem State.emit_answers (s : State) (e : DiagEvent) : (s.emit e).answers = s.answers := by unfold emit; split <;> rfl
@[simp] theorem State.emit_exchNo (s : State) (e : DiagEvent) : (s.emit e).exchNo = s.exchNo := by unfold emit; split <;> rfl
@[simp] theorem State.emit_fsm (s : State) (e : DiagEvent) : (s.emit e).fsm = s.fsm := by unfold emit; split <;> rfl
@[simp] theorem State.emit_seqActive (s : State) (e : DiagEvent) : (s.emit e).seqActive = s.seqActive := by unfold emit; split <;> rfl
@[simp] theorem State.emit_busy (s : State) (e : DiagEvent) : (s.emit e).busy = s.busy := by unfold emit; split <;> rfl
@[simp] theorem State.emit_opQ (s : State) (e : DiagEvent) : (s.emit e).opQ = s.opQ := by unfold emit; split <;> rfl
@[simp] theorem State.emit_addrQ (s : State) (e : DiagEvent) : (s.emit e).addrQ = s.addrQ := by unfold emit; split <;> rfl
@[simp] theorem State.emit_ctrlQ (s : State) (e : DiagEvent) : (s.emit e).ctrlQ = s.ctrlQ := by unfold emit; split <;> rfl
@[simp] theorem State.emit_lenQ (s : State) (e : DiagEvent) : (s.emit e).lenQ = s.lenQ := by unfold emit; split <;> rfl
@[simp] theorem State.emit_traceQ (s : State) (e : DiagEvent) : (s.emit e).traceQ = s.traceQ := by unfold emit; split <;> rfl
@[simp] theorem State.emit_wbuf (s : State) (e : DiagEvent) : (s.emit e).wbuf = s.wbuf := by unfold emit; split <;> rfl
@[simp] theorem State.emit_rbuf (s : State) (e : DiagEvent) : (s.emit e).rbuf = s.rbuf := by unfold emit; split <;> rfl
@[simp] theorem State.emit_idx (s : State) (e : DiagEvent) : (s.emit e).idx = s.idx := by unfold emit; split <;> rfl
@[simp] theorem State.emit_upc (s : State) (e : DiagEvent) : (s.emit e).upc = s.upc := by unfold emit; split <;> rfl
@[simp] theorem State.emit_waitCnt (s : State) (e : DiagEvent) : (s.emit e).waitCnt = s.waitCnt := by unfold emit; split <;> rfl
@[simp] theorem State.emit_failSeen (s : State) (e : DiagEvent) : (s.emit e).failSeen = s.failSeen := by unfold emit; split <;> rfl
@[simp] theorem State.emit_ch (s : State) (e : DiagEvent) : (s.emit e).ch = s.ch := by unfold emit; split <;> rfl
@[simp] theorem State.emit_respValid (s : State) (e : DiagEvent) : (s.emit e).respValid = s.respValid := by unfold emit; split <;> rfl
@[simp] theorem State.emit_respStatus (s : State) (e : DiagEvent) : (s.emit e).respStatus = s.respStatus := by unfold emit; split <;> rfl
@[simp] theorem State.emit_respPresent (s : State) (e : DiagEvent) : (s.emit e).respPresent = s.respPresent := by unfold emit; split <;> rfl
@[simp] theorem State.emit_respLen (s : State) (e : DiagEvent) : (s.emit e).respLen = s.respLen := by unfold emit; split <;> rfl
@[simp] theorem State.emit_rdIdx (s : State) (e : DiagEvent) : (s.emit e).rdIdx = s.rdIdx := by unfold emit; split <;> rfl
@[simp] theorem State.emit_sent (s : State) (e : DiagEvent) : (s.emit e).sent = s.sent := by unfold emit; split <;> rfl
@[simp] theorem State.emit_bus (s : State) (e : DiagEvent) : (s.emit e).bus = s.bus := by unfold emit; split <;> rfl
@[simp] theorem State.emit_responses (s : State) (e : DiagEvent) : (s.emit e).responses = s.responses := by unfold emit; split <;> rfl
@[simp] theorem State.emit_rdataOut (s : State) (e : DiagEvent) : (s.emit e).rdataOut = s.rdataOut := by unfold emit; split <;> rfl

@[simp] theorem State.emit_diagLog (s : State) (e : DiagEvent) : (s.emit e).diagLog = s.diagAfter [e] := by
  unfold emit diagAfter; split <;> rfl

@[simp] theorem State.emit_diagAfter (s : State) (e : DiagEvent) (es : List DiagEvent) :
    (s.emit e).diagAfter es = s.diagAfter (e :: es) := by
  simp only [diagAfter, emit_cfg, emit_diagLog]
  split <;> simp

@[simp] theorem State.emitXfer_cfg (s : State) : (s.emitXfer).cfg = s.cfg := by unfold emitXfer; split <;> simp
@[simp] theorem State.emitXfer_pins (s : State) : (s.emitXfer).pins = s.pins := by unfold emitXfer; split <;> simp
@[simp] theorem State.emitXfer_pinScript (s : State) : (s.emitXfer).pinScript = s.pinScript := by unfold emitXfer; split <;> simp
@[simp] theorem State.emitXfer_cmdIn (s : State) : (s.emitXfer).cmdIn = s.cmdIn := by unfold emitXfer; split <;> simp
@[simp] theorem State.emitXfer_wdataIn (s : State) : (s.emitXfer).wdataIn = s.wdataIn := by unfold emitXfer; split <;> simp
@[simp] theorem State.emitXfer_answers (s : State) : (s.emitXfer).answers = s.answers := by unfold emitXfer; split <;> simp
@[simp] theorem State.emitXfer_exchNo (s : State) : (s.emitXfer).exchNo = s.exchNo := by unfold emitXfer; split <;> simp
@[simp] theorem State.emitXfer_fsm (s : State) : (s.emitXfer).fsm = s.fsm := by unfold emitXfer; split <;> simp
@[simp] theorem State.emitXfer_seqActive (s : State) : (s.emitXfer).seqActive = s.seqActive := by unfold emitXfer; split <;> simp
@[simp] theorem State.emitXfer_busy (s : State) : (s.emitXfer).busy = s.busy := by unfold emitXfer; split <;> simp
@[simp] theorem State.emitXfer_opQ (s : State) : (s.emitXfer).opQ = s.opQ := by unfold emitXfer; split <;> simp
@[simp] theorem State.emitXfer_addrQ (s : State) : (s.emitXfer).addrQ = s.addrQ := by unfold emitXfer; split <;> simp
@[simp] theorem State.emitXfer_ctrlQ (s : State) : (s.emitXfer).ctrlQ = s.ctrlQ := by unfold emitXfer; split <;> simp
@[simp] theorem State.emitXfer_lenQ (s : State) : (s.emitXfer).lenQ = s.lenQ := by unfold emitXfer; split <;> simp
@[simp] theorem State.emitXfer_traceQ (s : State) : (s.emitXfer).traceQ = s.traceQ := by unfold emitXfer; split <;> simp
@[simp] theorem State.emitXfer_wbuf (s : State) : (s.emitXfer).wbuf = s.wbuf := by unfold emitXfer; split <;> simp
@[simp] theorem State.emitXfer_rbuf (s : State) : (s.emitXfer).rbuf = s.rbuf := by unfold emitXfer; split <;> simp
@[simp] theorem State.emitXfer_idx (s : State) : (s.emitXfer).idx = s.idx := by unfold emitXfer; split <;> simp
@[simp] theorem State.emitXfer_upc (s : State) : (s.emitXfer).upc = s.upc := by unfold emitXfer; split <;> simp
@[simp] theorem State.emitXfer_waitCnt (s : State) : (s.emitXfer).waitCnt = s.waitCnt := by unfold emitXfer; split <;> simp
@[simp] theorem State.emitXfer_failSeen (s : State) : (s.emitXfer).failSeen = s.failSeen := by unfold emitXfer; split <;> simp
@[simp] theorem State.emitXfer_ch (s : State) : (s.emitXfer).ch = s.ch := by unfold emitXfer; split <;> simp
@[simp] theorem State.emitXfer_respValid (s : State) : (s.emitXfer).respValid = s.respValid := by unfold emitXfer; split <;> simp
@[simp] theorem State.emitXfer_respStatus (s : State) : (s.emitXfer).respStatus = s.respStatus := by unfold emitXfer; split <;> simp
@[simp] theorem State.emitXfer_respPresent (s : State) : (s.emitXfer).respPresent = s.respPresent := by unfold emitXfer; split <;> simp
@[simp] theorem State.emitXfer_respLen (s : State) : (s.emitXfer).respLen = s.respLen := by unfold emitXfer; split <;> simp
@[simp] theorem State.emitXfer_rdIdx (s : State) : (s.emitXfer).rdIdx = s.rdIdx := by unfold emitXfer; split <;> simp
@[simp] theorem State.emitXfer_sent (s : State) : (s.emitXfer).sent = s.sent := by unfold emitXfer; split <;> simp
@[simp] theorem State.emitXfer_bus (s : State) : (s.emitXfer).bus = s.bus := by unfold emitXfer; split <;> simp
@[simp] theorem State.emitXfer_responses (s : State) : (s.emitXfer).responses = s.responses := by unfold emitXfer; split <;> simp
@[simp] theorem State.emitXfer_rdataOut (s : State) : (s.emitXfer).rdataOut = s.rdataOut := by unfold emitXfer; split <;> simp

@[simp] theorem State.emitXfer_diagAfter (s : State) (es : List DiagEvent) :
    s.emitXfer.diagAfter es = s.diagAfter (xferIf s.traceQ s.xferEvent ++ es) := by
  unfold emitXfer xferIf
  split <;> simp

/-- No event at all. -/
@[simp] theorem State.diagAfter_nil (s : State) : s.diagAfter [] = s.diagLog := by simp [diagAfter]

@[simp] theorem State.emitXfer_diagLog (s : State) :
    s.emitXfer.diagLog = s.diagAfter (xferIf s.traceQ s.xferEvent) := by
  rw [← State.diagAfter_nil, emitXfer_diagAfter, List.append_nil]

theorem State.emitXfer_diagPort (s : State) (h : s.traceQ = false) : s.emitXfer.diagPort = s.diagPort := by
  simp [emitXfer, h]

/-- The history after events depends on the history before and the build alone. -/
theorem State.diagAfter_congr (s t : State) (es : List DiagEvent) (h1 : t.cfg = s.cfg) (h2 : t.diagLog = s.diagLog) :
    t.diagAfter es = s.diagAfter es := by simp [diagAfter, h1, h2]

/-! ### The end of a single READ or WRITE -/

/-- A single command settles with BUS_FAILURE after a failed exchange, with OK and the length of a READ otherwise, in
RESP, and with the `XFER` event; nothing else changes. -/
theorem State.settleSingle_eq (s : State) : s.settleSingle =
    s.emitXfer.respond (if s.failSeen then .busFailure else .ok) false
      (if s.failSeen = false ∧ s.opQ = Device.OP_READ then s.lenQ else 0#16) := by
  unfold settleSingle
  by_cases hf : s.failSeen = true
  · simp [hf, raiseBusFailure]
  · by_cases ho : s.opQ = Device.OP_READ <;> simp [hf, ho]

/-! ### Exchanges with operands just latched -/

/-- What an exchange leaves alone of the diagnostic history. -/
@[simp] theorem State.exchange_diagAfter (s : State) (es : List DiagEvent) :
    s.exchange.diagAfter es = s.diagAfter es := State.diagAfter_congr _ _ _ (by simp) (by simp)

@[simp] theorem State.latch_diagAfter (s : State) (op : Byte) (a : Half) (c : Byte) (l : Half) (es : List DiagEvent) :
    (s.latch op a c l).diagAfter es = s.diagAfter es := rfl

@[simp] theorem State.enterLoad_diagAfter (s : State) (es : List DiagEvent) : s.enterLoad.diagAfter es = s.diagAfter es := rfl

@[simp] theorem State.collect_diagAfter (s : State) (es : List DiagEvent) : s.collect.diagAfter es = s.diagAfter es := rfl

@[simp] theorem State.accept_diagAfter (s : State) (es : List DiagEvent) : s.accept.diagAfter es = s.diagAfter es := rfl

@[simp] theorem State.atMicroStep_diagAfter (s : State) (k : Upc) (es : List DiagEvent) :
    (s.atMicroStep k).diagAfter es = s.diagAfter es := rfl

@[simp] theorem State.latch_frameLen (s : State) (op : Byte) (a : Half) (c : Byte) (l : Half) :
    (s.latch op a c l).frameLen = 3 + l.toNat := rfl

@[simp] theorem State.enterLoad_frameLen (s : State) : s.enterLoad.frameLen = s.frameLen := rfl
@[simp] theorem State.collect_frameLen (s : State) : s.collect.frameLen = s.frameLen := rfl
@[simp] theorem State.accept_frameLen (s : State) : s.accept.frameLen = s.frameLen := rfl
@[simp] theorem State.atMicroStep_frameLen (s : State) (k : Upc) : (s.atMicroStep k).frameLen = s.frameLen := rfl

/-- An exchange changes neither the write buffer nor what the sequencer is at. -/
@[simp] theorem State.exchange_payload (s : State) : s.exchange.payload = s.payload := by simp [payload]

/-- The data of a host's WRITE is what the write buffer holds. -/
theorem State.payload_host (s : State) (h : s.seqActive = false) : s.payload = s.wbuf := by simp [payload, h]

/-- The data of a write micro-step is the constant of the micro-step table. -/
theorem State.payload_microStep (s : State) (k : Upc) (a : Half) (c d : Byte) (h : microRow k = some (.write a c d)) :
    (s.atMicroStep k).payload = [d] := by simp [payload, microData, h]

/-- The bus history after an exchange of the frame `f`: the whole frame, or if the exchange fails a first part. -/
theorem State.exchange_bus_cases (s : State) (f : List Byte) (h : s.txBytes 0 s.frameLen = f) :
    (s.failsAt 0 s.frameLen = false → s.exchange.bus = s.bus ++ [.exchange f true]) ∧
    (s.failsAt 0 s.frameLen = true → ∃ m, s.exchange.bus = s.bus ++ [.exchange (f.take m) false]) := by
  constructor
  · intro hf
    rw [exchange_bus, exchange_sent_ok s hf, h, hf]
    rfl
  · intro hf
    obtain ⟨m, hm, h1, -⟩ := s.exchange_sent
    refine ⟨m, ?_⟩
    rw [exchange_bus, h1, txBytes_take s m _ hm, h, hf]
    rfl

/-- A READ's exchange: the zero-filled frame. -/
theorem State.exchange_bus_read (s : State) (h : s.opQ = Device.OP_READ) :
    (s.failsAt 0 s.frameLen = false →
      s.exchange.bus = s.bus ++ [.exchange (readFrame s.addrQ s.ctrlQ s.lenQ.toNat) true]) ∧
    (s.failsAt 0 s.frameLen = true →
      ∃ m, s.exchange.bus = s.bus ++ [.exchange ((readFrame s.addrQ s.ctrlQ s.lenQ.toNat).take m) false]) :=
  s.exchange_bus_cases _ (s.txBytes_read h)

/-- A WRITE's exchange, once its data is there: header and data. -/
theorem State.exchange_bus_write (s : State) (h : s.opQ = Device.OP_WRITE) (hl : s.payload.length = s.lenQ.toNat) :
    (s.failsAt 0 s.frameLen = false →
      s.exchange.bus = s.bus ++ [.exchange (writeFrame s.addrQ s.ctrlQ s.payload) true]) ∧
    (s.failsAt 0 s.frameLen = true →
      ∃ m, s.exchange.bus = s.bus ++ [.exchange ((writeFrame s.addrQ s.ctrlQ s.payload).take m) false]) :=
  s.exchange_bus_cases _ (s.txBytes_write h hl)

/-- The `XFER` event of a READ's exchange. -/
theorem State.xferEvent_read (s : State) (h : s.opQ = Device.OP_READ) :
    s.xferEvent = .xfer .r s.addrQ s.ctrlQ s.rbuf (!s.failSeen) := by simp [xferEvent, h]

/-- The `XFER` event of a WRITE's exchange. -/
theorem State.xferEvent_write (s : State) (h : s.opQ = Device.OP_WRITE) :
    s.xferEvent = .xfer .w s.addrQ s.ctrlQ s.payload (!s.failSeen) := by
  have : ¬ Device.OP_WRITE = Device.OP_READ := by decide
  simp [xferEvent, h, this]

/-- The delivery of the response record: `seq_active` and `resp_valid` fall, and the command is over unless read data is
still to come. -/
theorem State.takeResponse_eq (s : State) :
    s.takeResponse =
      { s with
        seqActive := false, respValid := false, responses := s.responses ++ [s.response]
        fsm := if s.respLen = 0x0000#16 then .idle else s.fsm
        busy := if s.respLen = 0x0000#16 then false else s.busy } := by
  by_cases h : s.respLen = 0x0000#16 <;> simp [takeResponse, handOver, goIdle, response, h]

/-! ### Reset -/

/-- What no reset changes. -/
theorem State.resetCutting_frame (bits : List Bool) (s : State) : s.SameHost (s.resetCutting bits) ∧
    (s.resetCutting bits).pins = s.pins ∧ (s.resetCutting bits).pinScript = s.pinScript ∧
    (s.resetCutting bits).wdataIn = s.wdataIn := ⟨⟨rfl, rfl, rfl, rfl, rfl⟩, rfl, rfl, rfl⟩

/-- Reset gives every register the spec gives a value that value. -/
theorem State.resetCutting_restarted (bits : List Bool) (s : State) : (s.resetCutting bits).Restarted :=
  ⟨rfl, rfl, rfl, rfl, rfl, rfl, rfl, rfl, rfl, rfl, rfl⟩

@[simp] theorem State.afterPulses_payload (s : State) (n : Nat) : (s.afterPulses n).payload = s.payload := by
  simp [afterPulses, payload]

/-- The bytes of a frame are the same wherever the exchange stands. -/
theorem State.afterPulses_txByte (s : State) (n i : Nat) : (s.afterPulses n).txByte i = s.txByte i := by
  simp only [txByte, afterPulses_payload]
  simp [afterPulses]

/-! ### An exchange that `rst` may cut short -/

/-- What an exchange with its settlement can do: run to its end, or be cut short. -/
theorem State.perform_cases (s : State) (f : State → State) :
    (s.rstCuts s.frameLen = false ∧ s.perform f = f s.exchange) ∨
    ∃ n, s.pins.rstDuring = some n ∧ s.rstCuts s.frameLen = true ∧ s.perform f = s.beginExchange.cutExchange n := by
  unfold perform runExchange rstCuts
  rw [beginExchange_pins]
  cases hn : s.pins.rstDuring with
  | none => exact .inl ⟨rfl, rfl⟩
  | some n =>
    have hl := s.frameLen_lt
    have hf : 8 * (s.beginExchange.frameLen - s.beginExchange.idx.toNat) = 8 * s.frameLen := rfl
    simp only [Option.any_some, hf]
    by_cases h : n < 8 * s.frameLen
    · obtain ⟨hs, -⟩ := s.afterPulses_begin n (by omega)
      rw [hs]
      cases hb : s.stopsBy (n / 8) with
      | true => exact .inl ⟨by simp, by simp [exchange]⟩
      | false => exact .inr ⟨n, rfl, by simp [h], by simp [h]⟩
    · exact .inl ⟨by simp [h], by simp [h, exchange]⟩

/-- An exchange `rst` does not cut runs to its end and is settled. -/
theorem State.perform_spared (s : State) (f : State → State) (h : s.rstCuts s.frameLen = false) :
    s.perform f = f s.exchange := by
  obtain ⟨-, e⟩ | ⟨n, -, hc, -⟩ := s.perform_cases f
  · exact e
  · rw [h] at hc; cases hc

/-- An exchange `rst` cuts: what has gone out of its frame, and the reset. -/
theorem State.perform_cut (s : State) (f : State → State) (n : Nat) (frame : List Byte)
    (hf : s.txBytes 0 s.frameLen = frame) (hn : s.pins.rstDuring = some n) (h : s.rstCuts s.frameLen = true) :
    s.CutShort (s.perform f) frame n ∧ (s.perform f).wdataIn = s.wdataIn := by
  obtain ⟨hc, -⟩ | ⟨n', hn', hc, e⟩ := s.perform_cases f
  · rw [h] at hc; cases hc
  · obtain rfl : n' = n := by simpa [hn] using hn'.symm
    have hl := s.frameLen_lt
    simp only [rstCuts, hn, Option.any_some, Bool.and_eq_true, decide_eq_true_eq, Bool.not_eq_true'] at hc
    obtain ⟨-, hx⟩ := s.afterPulses_begin n' (by omega)
    obtain ⟨hs, hi, hp⟩ := hx hc.2
    obtain ⟨h1, h2⟩ := (s.beginExchange.afterPulses n').partSlot_eq (n' % 8) (by omega)
    have hcs : ((s.beginExchange.afterPulses n').partSlot (n' % 8)).2.cs = true := by simp
    have hb : ((s.beginExchange.afterPulses n').partSlot (n' % 8)).1 = cutBits frame n' := by
      rw [h1, afterPulses_txByte, hi, cutBits, ← hf, txBytes_getD _ _ _ (by omega)]
      rfl
    rw [e]
    unfold cutExchange
    refine ⟨⟨resetCutting_restarted _ _, ⟨?_, ?_, ?_, ?_, ?_⟩, ?_, ⟨?_, ?_⟩, ?_⟩, ?_⟩
    · simp [resetCutting, afterPulses]
    · simp [resetCutting, afterPulses]
    · simp [resetCutting, afterPulses]
    · simp [resetCutting, afterPulses]
    · simp [resetCutting, afterPulses]
    · simp only [resetCutting, hcs, if_true, hb, hs]
      rw [txBytes_take s _ _ (show n' / 8 ≤ s.frameLen by omega), hf]
      simp [afterPulses]
    · simp only [resetCutting, hcs, if_true]
      simp [afterPulses]
    · simp only [resetCutting, hcs, if_true]
      simp [afterPulses]
    · simp only [resetCutting, h2, hp]
      omega
    · simp [resetCutting, afterPulses]

/-- What a cut changes neither in the block's build nor outside it. -/
theorem State.cutExchange_frame (s : State) (n : Nat) : s.SameOutside (s.cutExchange n) ∧
    (s.cutExchange n).wdataIn = s.wdataIn ∧ (s.cutExchange n).diagLog = s.diagLog ∧
    (s.cutExchange n).seqActive = false := by
  simp [SameOutside, cutExchange, resetCutting, afterPulses, State.reset]

/-! ### LOAD -/

/-- Collecting when the host offers exactly what is missing, or more. -/
theorem State.collect_all (s : State) (more rest : List Byte) (hv : s.pins.wdataValid = true)
    (hw : s.wdataIn = more ++ rest) (hl : s.wbuf.length + more.length = s.lenQ.toNat) :
    s.collect.wbuf = s.wbuf ++ more ∧ s.collect.wdataIn = rest ∧ s.collect.loaded = true := by
  have hm : s.wdataMissing = more.length := by simp [wdataMissing]; omega
  have ho : s.wdataOffered = more ++ rest := by simp [wdataOffered, hv, hw]
  refine ⟨by simp [hm, ho], by simp [hm, ho, hw], ?_⟩
  simp only [loaded, collect_wbuf, hm, ho, collect_lenQ, List.take_left, List.length_append]
  simp only [decide_eq_true_eq]
  omega

/-- Collecting when the host offers too little. -/
theorem State.collect_some (s : State) (h : s.wdataOffered.length < s.wdataMissing) :
    s.collect.wbuf = s.wbuf ++ s.wdataOffered ∧ s.collect.wdataIn = s.wdataIn.drop s.wdataOffered.length ∧
      s.collect.loaded = false := by
  have e : s.wdataOffered.take s.wdataMissing = s.wdataOffered := List.take_of_length_le (by omega)
  have e2 : min s.wdataOffered.length s.wdataMissing = s.wdataOffered.length := by omega
  have hb : s.collect.wbuf = s.wbuf ++ s.wdataOffered := by rw [collect_wbuf, e]
  have hm : s.wdataMissing = s.lenQ.toNat - s.wbuf.length := rfl
  refine ⟨hb, by rw [collect_wdataIn, e2], ?_⟩
  simp only [loaded, hb, collect_lenQ, List.length_append, decide_eq_false_iff_not]
  omega

/-- The data collected is never more than the command wants. -/
theorem State.collect_length (s : State) (h : s.wbuf.length ≤ s.lenQ.toNat) :
    s.collect.wbuf.length ≤ s.lenQ.toNat := by
  have hm : s.wdataMissing = s.lenQ.toNat - s.wbuf.length := rfl
  simp only [collect_wbuf, List.length_append, List.length_take]
  omega

/-! ### Operands -/

/-- A step of RESP leaves the operands alone. -/
theorem State.deliver_sameOperands (s : State) : s.SameOperands s.deliver := by
  unfold deliver
  split <;> split
  · rw [takeResponse_eq]; exact ⟨⟨rfl, rfl, rfl, rfl⟩, rfl⟩
  · exact ⟨⟨rfl, rfl, rfl, rfl⟩, rfl⟩
  · unfold takeByte
    split <;> [split; skip] <;> exact ⟨⟨rfl, rfl, rfl, rfl⟩, rfl⟩
  · exact ⟨⟨rfl, rfl, rfl, rfl⟩, rfl⟩

/-- A step of LOAD leaves the operands alone, unless `rst` cuts its exchange short. -/
theorem State.continueLoad_sameOperands (s : State) :
    s.SameOperands s.continueLoad ∨ (s.pins.rstDuring ≠ none ∧ s.continueLoad.Restarted) := by
  unfold continueLoad
  split
  · obtain ⟨-, e⟩ | ⟨n, hn, -, e⟩ := s.collect.perform_cases settleSingle
    · left
      rw [e, settleSingle_eq]
      simp [SameOperands, Latched]
    · right
      rw [e]
      exact ⟨by simp at hn; simp [hn], resetCutting_restarted _ _⟩
  · exact .inl ⟨⟨rfl, rfl, rfl, rfl⟩, rfl⟩

end Sys2Proof.Machine
end

