-- ==== Sys2Proof/Laws/Bringup.lean ====
section
/-! SUPPORT. The bring-up sequencer: the micro-step table, what each shared operation of the sequencer changes and leaves
alone, and the inversion lemmas of a micro-step (what it can do, by kind of row). -/

namespace Sys2Proof.Machine

open Sys2Proof

/-! ### Loading, entering and leaving a micro-step -/

@[simp] theorem State.loadRow_cfg (s : State) (row : MicroRow) : (s.loadRow row).cfg = s.cfg := by cases row <;> rfl
@[simp] theorem State.loadRow_pins (s : State) (row : MicroRow) : (s.loadRow row).pins = s.pins := by cases row <;> rfl
@[simp] theorem State.loadRow_pinScript (s : State) (row : MicroRow) : (s.loadRow row).pinScript = s.pinScript := by cases row <;> rfl
@[simp] theorem State.loadRow_cmdIn (s : State) (row : MicroRow) : (s.loadRow row).cmdIn = s.cmdIn := by cases row <;> rfl
@[simp] theorem State.loadRow_wdataIn (s : State) (row : MicroRow) : (s.loadRow row).wdataIn = s.wdataIn := by cases row <;> rfl
@[simp] theorem State.loadRow_answers (s : State) (row : MicroRow) : (s.loadRow row).answers = s.answers := by cases row <;> rfl
@[simp] theorem State.loadRow_exchNo (s : State) (row : MicroRow) : (s.loadRow row).exchNo = s.exchNo := by cases row <;> rfl
@[simp] theorem State.loadRow_fsm (s : State) (row : MicroRow) : (s.loadRow row).fsm = s.fsm := by cases row <;> rfl
@[simp] theorem State.loadRow_seqActive (s : State) (row : MicroRow) : (s.loadRow row).seqActive = s.seqActive := by cases row <;> rfl
@[simp] theorem State.loadRow_busy (s : State) (row : MicroRow) : (s.loadRow row).busy = s.busy := by cases row <;> rfl
@[simp] theorem State.loadRow_traceQ (s : State) (row : MicroRow) : (s.loadRow row).traceQ = s.traceQ := by cases row <;> rfl
@[simp] theorem State.loadRow_wbuf (s : State) (row : MicroRow) : (s.loadRow row).wbuf = s.wbuf := by cases row <;> rfl
@[simp] theorem State.loadRow_rbuf (s : State) (row : MicroRow) : (s.loadRow row).rbuf = s.rbuf := by cases row <;> rfl
@[simp] theorem State.loadRow_idx (s : State) (row : MicroRow) : (s.loadRow row).idx = s.idx := by cases row <;> rfl
@[simp] theorem State.loadRow_upc (s : State) (row : MicroRow) : (s.loadRow row).upc = s.upc := by cases row <;> rfl
@[simp] theorem State.loadRow_waitCnt (s : State) (row : MicroRow) : (s.loadRow row).waitCnt = s.waitCnt := by cases row <;> rfl
@[simp] theorem State.loadRow_failSeen (s : State) (row : MicroRow) : (s.loadRow row).failSeen = s.failSeen := by cases row <;> rfl
@[simp] theorem State.loadRow_ch (s : State) (row : MicroRow) : (s.loadRow row).ch = s.ch := by cases row <;> rfl
@[simp] theorem State.loadRow_respValid (s : State) (row : MicroRow) : (s.loadRow row).respValid = s.respValid := by cases row <;> rfl
@[simp] theorem State.loadRow_respStatus (s : State) (row : MicroRow) : (s.loadRow row).respStatus = s.respStatus := by cases row <;> rfl
@[simp] theorem State.loadRow_respPresent (s : State) (row : MicroRow) : (s.loadRow row).respPresent = s.respPresent := by cases row <;> rfl
@[simp] theorem State.loadRow_respLen (s : State) (row : MicroRow) : (s.loadRow row).respLen = s.respLen := by cases row <;> rfl
@[simp] theorem State.loadRow_rdIdx (s : State) (row : MicroRow) : (s.loadRow row).rdIdx = s.rdIdx := by cases row <;> rfl
@[simp] theorem State.loadRow_diagPort (s : State) (row : MicroRow) : (s.loadRow row).diagPort = s.diagPort := by cases row <;> rfl
@[simp] theorem State.loadRow_sent (s : State) (row : MicroRow) : (s.loadRow row).sent = s.sent := by cases row <;> rfl
@[simp] theorem State.loadRow_bus (s : State) (row : MicroRow) : (s.loadRow row).bus = s.bus := by cases row <;> rfl
@[simp] theorem State.loadRow_responses (s : State) (row : MicroRow) : (s.loadRow row).responses = s.responses := by cases row <;> rfl
@[simp] theorem State.loadRow_rdataOut (s : State) (row : MicroRow) : (s.loadRow row).rdataOut = s.rdataOut := by cases row <;> rfl
@[simp] theorem State.loadRow_diagLog (s : State) (row : MicroRow) : (s.loadRow row).diagLog = s.diagLog := by cases row <;> rfl

@[simp] theorem State.loadRow_misoAt (s : State) (row : MicroRow) (j i : Nat) :
    (s.loadRow row).misoAt j i = s.misoAt j i := by cases row <;> rfl
@[simp] theorem State.loadRow_failsAt (s : State) (row : MicroRow) (j n : Nat) :
    (s.loadRow row).failsAt j n = s.failsAt j n := by cases row <;> rfl

/-- Entering a micro-step leaves alone everything but `upc`, `seq_active`, the engine state, the channel, the operands, the exchange
about to run and the wait counter. -/
theorem State.enterMicroStep_frame (k : Upc) (s : State) :
    s.enterMicroStep k = { s with
      upc := (s.enterMicroStep k).upc, seqActive := (s.enterMicroStep k).seqActive, fsm := (s.enterMicroStep k).fsm, ch := (s.enterMicroStep k).ch
      opQ := (s.enterMicroStep k).opQ, addrQ := (s.enterMicroStep k).addrQ, ctrlQ := (s.enterMicroStep k).ctrlQ
      lenQ := (s.enterMicroStep k).lenQ, rbuf := (s.enterMicroStep k).rbuf
      idx := (s.enterMicroStep k).idx, failSeen := (s.enterMicroStep k).failSeen
      sent := (s.enterMicroStep k).sent, waitCnt := (s.enterMicroStep k).waitCnt } := by
  unfold enterMicroStep
  split
  · rfl
  · rename_i row _ _
    cases row <;> rfl
  · rfl

@[simp] theorem State.enterMicroStep_cfg (s : State) (k : Upc) : (s.enterMicroStep k).cfg = s.cfg := by rw [enterMicroStep_frame]
@[simp] theorem State.enterMicroStep_pins (s : State) (k : Upc) : (s.enterMicroStep k).pins = s.pins := by rw [enterMicroStep_frame]
@[simp] theorem State.enterMicroStep_pinScript (s : State) (k : Upc) : (s.enterMicroStep k).pinScript = s.pinScript := by rw [enterMicroStep_frame]
@[simp] theorem State.enterMicroStep_cmdIn (s : State) (k : Upc) : (s.enterMicroStep k).cmdIn = s.cmdIn := by rw [enterMicroStep_frame]
@[simp] theorem State.enterMicroStep_wdataIn (s : State) (k : Upc) : (s.enterMicroStep k).wdataIn = s.wdataIn := by rw [enterMicroStep_frame]
@[simp] theorem State.enterMicroStep_answers (s : State) (k : Upc) : (s.enterMicroStep k).answers = s.answers := by rw [enterMicroStep_frame]
@[simp] theorem State.enterMicroStep_exchNo (s : State) (k : Upc) : (s.enterMicroStep k).exchNo = s.exchNo := by rw [enterMicroStep_frame]
@[simp] theorem State.enterMicroStep_busy (s : State) (k : Upc) : (s.enterMicroStep k).busy = s.busy := by rw [enterMicroStep_frame]
@[simp] theorem State.enterMicroStep_traceQ (s : State) (k : Upc) : (s.enterMicroStep k).traceQ = s.traceQ := by rw [enterMicroStep_frame]
@[simp] theorem State.enterMicroStep_wbuf (s : State) (k : Upc) : (s.enterMicroStep k).wbuf = s.wbuf := by rw [enterMicroStep_frame]
@[simp] theorem State.enterMicroStep_respValid (s : State) (k : Upc) : (s.enterMicroStep k).respValid = s.respValid := by rw [enterMicroStep_frame]
@[simp] theorem State.enterMicroStep_respStatus (s : State) (k : Upc) : (s.enterMicroStep k).respStatus = s.respStatus := by rw [enterMicroStep_frame]
@[simp] theorem State.enterMicroStep_respPresent (s : State) (k : Upc) : (s.enterMicroStep k).respPresent = s.respPresent := by rw [enterMicroStep_frame]
@[simp] theorem State.enterMicroStep_respLen (s : State) (k : Upc) : (s.enterMicroStep k).respLen = s.respLen := by rw [enterMicroStep_frame]
@[simp] theorem State.enterMicroStep_rdIdx (s : State) (k : Upc) : (s.enterMicroStep k).rdIdx = s.rdIdx := by rw [enterMicroStep_frame]
@[simp] theorem State.enterMicroStep_diagPort (s : State) (k : Upc) : (s.enterMicroStep k).diagPort = s.diagPort := by rw [enterMicroStep_frame]
@[simp] theorem State.enterMicroStep_bus (s : State) (k : Upc) : (s.enterMicroStep k).bus = s.bus := by rw [enterMicroStep_frame]
@[simp] theorem State.enterMicroStep_responses (s : State) (k : Upc) : (s.enterMicroStep k).responses = s.responses := by rw [enterMicroStep_frame]
@[simp] theorem State.enterMicroStep_rdataOut (s : State) (k : Upc) : (s.enterMicroStep k).rdataOut = s.rdataOut := by rw [enterMicroStep_frame]
@[simp] theorem State.enterMicroStep_diagLog (s : State) (k : Upc) : (s.enterMicroStep k).diagLog = s.diagLog := by rw [enterMicroStep_frame]

/-- A micro-step that begins is that of an active sequence. -/
@[simp] theorem State.enterMicroStep_seqActive (s : State) (k : Upc) : (s.enterMicroStep k).seqActive = true := by
  unfold enterMicroStep
  split
  · rfl
  · rename_i row _ _
    cases row <;> rfl
  · rfl

@[simp] theorem State.enterMicroStep_upc (s : State) (k : Upc) : (s.enterMicroStep k).upc = k := by
  unfold enterMicroStep
  split
  · rfl
  · rename_i row _ _
    cases row <;> rfl
  · rfl

@[simp] theorem State.enterMicroStep_diagAfter (s : State) (k : Upc) (es : List DiagEvent) :
    (s.enterMicroStep k).diagAfter es = s.diagAfter es := State.diagAfter_congr _ _ _ (by simp) (by simp)

/-- Entering a micro-step other than S1WAIT begins its exchange. -/
theorem State.enterMicroStep_begins (k : Upc) (s : State) (h9 : k.toNat ≤ 9) (h1 : k ≠ 1#4) :
    (s.enterMicroStep k).BeginsExchange k := by
  have e : ∀ k : Upc, k.toNat ≤ 9 → k ≠ 1#4 → ∃ row, microRow k = some row ∧ row ≠ .wait := by
    intro k h9 h1
    have : ∀ k : Upc, k.toNat ≤ 9 → k ≠ 1#4 → (microRow k).isSome = true ∧ microRow k ≠ some .wait := by decide
    obtain ⟨a, b⟩ := this k h9 h1
    obtain ⟨row, hr⟩ := Option.isSome_iff_exists.1 a
    exact ⟨row, hr, fun hw => b (by rw [hr, hw])⟩
  obtain ⟨row, hr, hw⟩ := e k h9 h1
  unfold enterMicroStep
  rw [hr]
  cases row with
  | wait => exact absurd rfl hw
  | write a c d => simp [BeginsExchange]
  | read a c x st f => simp [BeginsExchange]

/-- Entering S1WAIT loads the wait counter, with chip-select released. -/
theorem State.enterMicroStep_wait (s : State) : s.enterMicroStep 1#4 = (s.atMicroStep 1#4).enterWait := rfl

/-- After the last micro-step the sequence ends in `Present`. -/
theorem State.advance_last (s : State) : s.advance 9#4 = s.finishPresent := rfl

/-- After every other micro-step the next one begins. -/
theorem State.advance_next (s : State) (k : Upc) (h : k ≠ 9#4) : s.advance k = s.enterMicroStep (k + 1#4) := by
  simp [advance, h]

@[simp] theorem State.advance_cfg (s : State) (k : Upc) : (s.advance k).cfg = s.cfg := by unfold advance; split <;> simp
@[simp] theorem State.advance_pins (s : State) (k : Upc) : (s.advance k).pins = s.pins := by unfold advance; split <;> simp
@[simp] theorem State.advance_pinScript (s : State) (k : Upc) : (s.advance k).pinScript = s.pinScript := by unfold advance; split <;> simp
@[simp] theorem State.advance_cmdIn (s : State) (k : Upc) : (s.advance k).cmdIn = s.cmdIn := by unfold advance; split <;> simp
@[simp] theorem State.advance_wdataIn (s : State) (k : Upc) : (s.advance k).wdataIn = s.wdataIn := by unfold advance; split <;> simp
@[simp] theorem State.advance_answers (s : State) (k : Upc) : (s.advance k).answers = s.answers := by unfold advance; split <;> simp
@[simp] theorem State.advance_exchNo (s : State) (k : Upc) : (s.advance k).exchNo = s.exchNo := by unfold advance; split <;> simp
@[simp] theorem State.advance_busy (s : State) (k : Upc) : (s.advance k).busy = s.busy := by unfold advance; split <;> simp
@[simp] theorem State.advance_traceQ (s : State) (k : Upc) : (s.advance k).traceQ = s.traceQ := by unfold advance; split <;> simp
@[simp] theorem State.advance_wbuf (s : State) (k : Upc) : (s.advance k).wbuf = s.wbuf := by unfold advance; split <;> simp
@[simp] theorem State.advance_diagPort (s : State) (k : Upc) : (s.advance k).diagPort = s.diagPort := by unfold advance; split <;> simp
@[simp] theorem State.advance_bus (s : State) (k : Upc) : (s.advance k).bus = s.bus := by unfold advance; split <;> simp
@[simp] theorem State.advance_responses (s : State) (k : Upc) : (s.advance k).responses = s.responses := by unfold advance; split <;> simp
@[simp] theorem State.advance_rdataOut (s : State) (k : Upc) : (s.advance k).rdataOut = s.rdataOut := by unfold advance; split <;> simp
@[simp] theorem State.advance_diagLog (s : State) (k : Upc) : (s.advance k).diagLog = s.diagLog := by unfold advance; split <;> simp

/-- An active sequence stays active, up to the delivery of its response (10_state.md R28; log 9). -/
@[simp] theorem State.advance_seqActive (s : State) (k : Upc) (h : s.seqActive = true) :
    (s.advance k).seqActive = true := by
  unfold advance; split <;> simp [h]

@[simp] theorem State.advance_diagAfter (s : State) (k : Upc) (es : List DiagEvent) :
    (s.advance k).diagAfter es = s.diagAfter es := State.diagAfter_congr _ _ _ (by simp) (by simp)

/-- Going on to the next micro-step makes no pulse. -/
theorem State.advance_wire (s : State) (k : Upc) :
    (s.advance k).ch.pulses = s.ch.pulses ∧ (s.advance k).ch.sclk = s.ch.sclk := by
  unfold advance
  split
  · exact ⟨rfl, rfl⟩
  · unfold enterMicroStep
    split
    · exact ⟨rfl, rfl⟩
    · rename_i row _ _
      cases row <;> exact ⟨rfl, rfl⟩
    · exact ⟨rfl, rfl⟩

@[simp] theorem State.abortOnBusFailure_cfg (s : State) (k : Upc) : (s.abortOnBusFailure k).cfg = s.cfg := by simp [abortOnBusFailure]
@[simp] theorem State.abortOnBusFailure_pins (s : State) (k : Upc) : (s.abortOnBusFailure k).pins = s.pins := by simp [abortOnBusFailure]
@[simp] theorem State.abortOnBusFailure_pinScript (s : State) (k : Upc) : (s.abortOnBusFailure k).pinScript = s.pinScript := by simp [abortOnBusFailure]
@[simp] theorem State.abortOnBusFailure_cmdIn (s : State) (k : Upc) : (s.abortOnBusFailure k).cmdIn = s.cmdIn := by simp [abortOnBusFailure]
@[simp] theorem State.abortOnBusFailure_wdataIn (s : State) (k : Upc) : (s.abortOnBusFailure k).wdataIn = s.wdataIn := by simp [abortOnBusFailure]
@[simp] theorem State.abortOnBusFailure_answers (s : State) (k : Upc) : (s.abortOnBusFailure k).answers = s.answers := by simp [abortOnBusFailure]
@[simp] theorem State.abortOnBusFailure_exchNo (s : State) (k : Upc) : (s.abortOnBusFailure k).exchNo = s.exchNo := by simp [abortOnBusFailure]
@[simp] theorem State.abortOnBusFailure_seqActive (s : State) (k : Upc) : (s.abortOnBusFailure k).seqActive = s.seqActive := by simp [abortOnBusFailure]
@[simp] theorem State.abortOnBusFailure_busy (s : State) (k : Upc) : (s.abortOnBusFailure k).busy = s.busy := by simp [abortOnBusFailure]
@[simp] theorem State.abortOnBusFailure_opQ (s : State) (k : Upc) : (s.abortOnBusFailure k).opQ = s.opQ := by simp [abortOnBusFailure]
@[simp] theorem State.abortOnBusFailure_addrQ (s : State) (k : Upc) : (s.abortOnBusFailure k).addrQ = s.addrQ := by simp [abortOnBusFailure]
@[simp] theorem State.abortOnBusFailure_ctrlQ (s : State) (k : Upc) : (s.abortOnBusFailure k).ctrlQ = s.ctrlQ := by simp [abortOnBusFailure]
@[simp] theorem State.abortOnBusFailure_lenQ (s : State) (k : Upc) : (s.abortOnBusFailure k).lenQ = s.lenQ := by simp [abortOnBusFailure]
@[simp] theorem State.abortOnBusFailure_traceQ (s : State) (k : Upc) : (s.abortOnBusFailure k).traceQ = s.traceQ := by simp [abortOnBusFailure]
@[simp] theorem State.abortOnBusFailure_wbuf (s : State) (k : Upc) : (s.abortOnBusFailure k).wbuf = s.wbuf := by simp [abortOnBusFailure]
@[simp] theorem State.abortOnBusFailure_rbuf (s : State) (k : Upc) : (s.abortOnBusFailure k).rbuf = s.rbuf := by simp [abortOnBusFailure]
@[simp] theorem State.abortOnBusFailure_idx (s : State) (k : Upc) : (s.abortOnBusFailure k).idx = s.idx := by simp [abortOnBusFailure]
@[simp] theorem State.abortOnBusFailure_waitCnt (s : State) (k : Upc) : (s.abortOnBusFailure k).waitCnt = s.waitCnt := by simp [abortOnBusFailure]
@[simp] theorem State.abortOnBusFailure_failSeen (s : State) (k : Upc) : (s.abortOnBusFailure k).failSeen = s.failSeen := by simp [abortOnBusFailure]
@[simp] theorem State.abortOnBusFailure_ch (s : State) (k : Upc) : (s.abortOnBusFailure k).ch = s.ch := by simp [abortOnBusFailure]
@[simp] theorem State.abortOnBusFailure_sent (s : State) (k : Upc) : (s.abortOnBusFailure k).sent = s.sent := by simp [abortOnBusFailure]
@[simp] theorem State.abortOnBusFailure_bus (s : State) (k : Upc) : (s.abortOnBusFailure k).bus = s.bus := by simp [abortOnBusFailure]
@[simp] theorem State.abortOnBusFailure_responses (s : State) (k : Upc) : (s.abortOnBusFailure k).responses = s.responses := by simp [abortOnBusFailure]
@[simp] theorem State.abortOnBusFailure_rdataOut (s : State) (k : Upc) : (s.abortOnBusFailure k).rdataOut = s.rdataOut := by simp [abortOnBusFailure]

@[simp] theorem State.abortOnBusFailure_diagLog (s : State) (k : Upc) :
    (s.abortOnBusFailure k).diagLog = s.diagAfter [.busfail k] := by simp [abortOnBusFailure]

/-- The sequence ends in `Absent`, on a bus failure as on a fatal mismatch. -/
theorem State.finishAbsent_ends (s : State) (h : s.ch.cs = false) (hq : s.seqActive = true) :
    s.finishAbsent.EndsAbsent := by
  simp [EndsAbsent, Responds, response, h, hq]

theorem State.finishPresent_ends (s : State) (h : s.ch.cs = false) (hq : s.seqActive = true) :
    s.finishPresent.EndsPresent := by
  simp [EndsPresent, Responds, response, h, hq]

theorem State.abortOnBusFailure_ends (s : State) (k : Upc) (h : s.ch.cs = false) (hq : s.seqActive = true) :
    (s.abortOnBusFailure k).EndsAbsent := State.finishAbsent_ends _ (by simpa using h) (by simpa using hq)

@[simp] theorem State.compareByte_cfg (s : State) (k : Upc) (e : Byte) (st : Nat) (fatal : Bool) : (s.compareByte k e st fatal).cfg = s.cfg := by unfold compareByte; split <;> [skip; split] <;> simp
@[simp] theorem State.compareByte_pins (s : State) (k : Upc) (e : Byte) (st : Nat) (fatal : Bool) : (s.compareByte k e st fatal).pins = s.pins := by unfold compareByte; split <;> [skip; split] <;> simp
@[simp] theorem State.compareByte_pinScript (s : State) (k : Upc) (e : Byte) (st : Nat) (fatal : Bool) : (s.compareByte k e st fatal).pinScript = s.pinScript := by unfold compareByte; split <;> [skip; split] <;> simp
@[simp] theorem State.compareByte_cmdIn (s : State) (k : Upc) (e : Byte) (st : Nat) (fatal : Bool) : (s.compareByte k e st fatal).cmdIn = s.cmdIn := by unfold compareByte; split <;> [skip; split] <;> simp
@[simp] theorem State.compareByte_wdataIn (s : State) (k : Upc) (e : Byte) (st : Nat) (fatal : Bool) : (s.compareByte k e st fatal).wdataIn = s.wdataIn := by unfold compareByte; split <;> [skip; split] <;> simp
@[simp] theorem State.compareByte_answers (s : State) (k : Upc) (e : Byte) (st : Nat) (fatal : Bool) : (s.compareByte k e st fatal).answers = s.answers := by unfold compareByte; split <;> [skip; split] <;> simp
@[simp] theorem State.compareByte_exchNo (s : State) (k : Upc) (e : Byte) (st : Nat) (fatal : Bool) : (s.compareByte k e st fatal).exchNo = s.exchNo := by unfold compareByte; split <;> [skip; split] <;> simp
@[simp] theorem State.compareByte_busy (s : State) (k : Upc) (e : Byte) (st : Nat) (fatal : Bool) : (s.compareByte k e st fatal).busy = s.busy := by unfold compareByte; split <;> [skip; split] <;> simp
@[simp] theorem State.compareByte_traceQ (s : State) (k : Upc) (e : Byte) (st : Nat) (fatal : Bool) : (s.compareByte k e st fatal).traceQ = s.traceQ := by unfold compareByte; split <;> [skip; split] <;> simp
@[simp] theorem State.compareByte_wbuf (s : State) (k : Upc) (e : Byte) (st : Nat) (fatal : Bool) : (s.compareByte k e st fatal).wbuf = s.wbuf := by unfold compareByte; split <;> [skip; split] <;> simp
@[simp] theorem State.compareByte_bus (s : State) (k : Upc) (e : Byte) (st : Nat) (fatal : Bool) : (s.compareByte k e st fatal).bus = s.bus := by unfold compareByte; split <;> [skip; split] <;> simp
@[simp] theorem State.compareByte_responses (s : State) (k : Upc) (e : Byte) (st : Nat) (fatal : Bool) : (s.compareByte k e st fatal).responses = s.responses := by unfold compareByte; split <;> [skip; split] <;> simp
@[simp] theorem State.compareByte_rdataOut (s : State) (k : Upc) (e : Byte) (st : Nat) (fatal : Bool) : (s.compareByte k e st fatal).rdataOut = s.rdataOut := by unfold compareByte; split <;> [skip; split] <;> simp

/-! ### A micro-step as a whole -/

/-- The exchange of write micro-step `k`. -/
def State.microWriteExchange (s : State) (k : Upc) (a : Half) (c : Byte) : State :=
  ((s.atMicroStep k).latch Device.OP_WRITE a c 1#16).exchange

/-- The exchange of read micro-step `k`. -/
def State.microReadExchange (s : State) (k : Upc) (a : Half) (c : Byte) : State :=
  ((s.atMicroStep k).latch Device.OP_READ a c 1#16).exchange

/-- What a write micro-step can do, unless `rst` cuts it: abort on a bus failure, or go on. -/
theorem State.runMicroStep_write (s : State) (k : Upc) (a : Half) (c d : Byte) (h : s.rstCuts 4 = false) :
    s.runMicroStep k (.write a c d) =
      if s.failsAt 0 4 then (s.microWriteExchange k a c).emitXfer.abortOnBusFailure k
      else (s.microWriteExchange k a c).emitXfer.advance k := by
  simp only [runMicroStep, loadRow, microWriteExchange]
  rw [perform_spared _ _ (by simpa using h)]
  simp only [settleMicro]
  congr 1
  simp

/-- What a read micro-step can do, unless `rst` cuts it: abort on a bus failure, or compare the byte. -/
theorem State.runMicroStep_read (s : State) (k : Upc) (a : Half) (c e : Byte) (st : Nat) (fatal : Bool)
    (h : s.rstCuts 4 = false) :
    s.runMicroStep k (.read a c e st fatal) =
      if s.failsAt 0 4 then (s.microReadExchange k a c).emitXfer.abortOnBusFailure k
      else (s.microReadExchange k a c).emitXfer.compareByte k e st fatal := by
  simp only [runMicroStep, loadRow, microReadExchange]
  rw [perform_spared _ _ (by simpa using h)]
  simp only [settleMicro]
  congr 1
  simp

@[simp] theorem State.microWriteExchange_cfg (s : State) (k : Upc) (a : Half) (c : Byte) : (s.microWriteExchange k a c).cfg = s.cfg := by simp [microWriteExchange]
@[simp] theorem State.microWriteExchange_pins (s : State) (k : Upc) (a : Half) (c : Byte) : (s.microWriteExchange k a c).pins = s.pins := by simp [microWriteExchange]
@[simp] theorem State.microWriteExchange_pinScript (s : State) (k : Upc) (a : Half) (c : Byte) : (s.microWriteExchange k a c).pinScript = s.pinScript := by simp [microWriteExchange]
@[simp] theorem State.microWriteExchange_cmdIn (s : State) (k : Upc) (a : Half) (c : Byte) : (s.microWriteExchange k a c).cmdIn = s.cmdIn := by simp [microWriteExchange]
@[simp] theorem State.microWriteExchange_wdataIn (s : State) (k : Upc) (a : Half) (c : Byte) : (s.microWriteExchange k a c).wdataIn = s.wdataIn := by simp [microWriteExchange]
@[simp] theorem State.microWriteExchange_busy (s : State) (k : Upc) (a : Half) (c : Byte) : (s.microWriteExchange k a c).busy = s.busy := by simp [microWriteExchange]
@[simp] theorem State.microWriteExchange_traceQ (s : State) (k : Upc) (a : Half) (c : Byte) : (s.microWriteExchange k a c).traceQ = s.traceQ := by simp [microWriteExchange]
@[simp] theorem State.microWriteExchange_wbuf (s : State) (k : Upc) (a : Half) (c : Byte) : (s.microWriteExchange k a c).wbuf = s.wbuf := by simp [microWriteExchange]
@[simp] theorem State.microWriteExchange_waitCnt (s : State) (k : Upc) (a : Half) (c : Byte) : (s.microWriteExchange k a c).waitCnt = s.waitCnt := by simp [microWriteExchange]
@[simp] theorem State.microWriteExchange_respValid (s : State) (k : Upc) (a : Half) (c : Byte) : (s.microWriteExchange k a c).respValid = s.respValid := by simp [microWriteExchange]
@[simp] theorem State.microWriteExchange_respStatus (s : State) (k : Upc) (a : Half) (c : Byte) : (s.microWriteExchange k a c).respStatus = s.respStatus := by simp [microWriteExchange]
@[simp] theorem State.microWriteExchange_respPresent (s : State) (k : Upc) (a : Half) (c : Byte) : (s.microWriteExchange k a c).respPresent = s.respPresent := by simp [microWriteExchange]
@[simp] theorem State.microWriteExchange_respLen (s : State) (k : Upc) (a : Half) (c : Byte) : (s.microWriteExchange k a c).respLen = s.respLen := by simp [microWriteExchange]
@[simp] theorem State.microWriteExchange_rdIdx (s : State) (k : Upc) (a : Half) (c : Byte) : (s.microWriteExchange k a c).rdIdx = s.rdIdx := by simp [microWriteExchange]
@[simp] theorem State.microWriteExchange_diagPort (s : State) (k : Upc) (a : Half) (c : Byte) : (s.microWriteExchange k a c).diagPort = s.diagPort := by simp [microWriteExchange]
@[simp] theorem State.microWriteExchange_responses (s : State) (k : Upc) (a : Half) (c : Byte) : (s.microWriteExchange k a c).responses = s.responses := by simp [microWriteExchange]
@[simp] theorem State.microWriteExchange_rdataOut (s : State) (k : Upc) (a : Half) (c : Byte) : (s.microWriteExchange k a c).rdataOut = s.rdataOut := by simp [microWriteExchange]
@[simp] theorem State.microWriteExchange_diagLog (s : State) (k : Upc) (a : Half) (c : Byte) : (s.microWriteExchange k a c).diagLog = s.diagLog := by simp [microWriteExchange]

@[simp] theorem State.microReadExchange_cfg (s : State) (k : Upc) (a : Half) (c : Byte) : (s.microReadExchange k a c).cfg = s.cfg := by simp [microReadExchange]
@[simp] theorem State.microReadExchange_pins (s : State) (k : Upc) (a : Half) (c : Byte) : (s.microReadExchange k a c).pins = s.pins := by simp [microReadExchange]
@[simp] theorem State.microReadExchange_pinScript (s : State) (k : Upc) (a : Half) (c : Byte) : (s.microReadExchange k a c).pinScript = s.pinScript := by simp [microReadExchange]
@[simp] theorem State.microReadExchange_cmdIn (s : State) (k : Upc) (a : Half) (c : Byte) : (s.microReadExchange k a c).cmdIn = s.cmdIn := by simp [microReadExchange]
@[simp] theorem State.microReadExchange_wdataIn (s : State) (k : Upc) (a : Half) (c : Byte) : (s.microReadExchange k a c).wdataIn = s.wdataIn := by simp [microReadExchange]
@[simp] theorem State.microReadExchange_busy (s : State) (k : Upc) (a : Half) (c : Byte) : (s.microReadExchange k a c).busy = s.busy := by simp [microReadExchange]
@[simp] theorem State.microReadExchange_traceQ (s : State) (k : Upc) (a : Half) (c : Byte) : (s.microReadExchange k a c).traceQ = s.traceQ := by simp [microReadExchange]
@[simp] theorem State.microReadExchange_wbuf (s : State) (k : Upc) (a : Half) (c : Byte) : (s.microReadExchange k a c).wbuf = s.wbuf := by simp [microReadExchange]
@[simp] theorem State.microReadExchange_waitCnt (s : State) (k : Upc) (a : Half) (c : Byte) : (s.microReadExchange k a c).waitCnt = s.waitCnt := by simp [microReadExchange]
@[simp] theorem State.microReadExchange_respValid (s : State) (k : Upc) (a : Half) (c : Byte) : (s.microReadExchange k a c).respValid = s.respValid := by simp [microReadExchange]
@[simp] theorem State.microReadExchange_respStatus (s : State) (k : Upc) (a : Half) (c : Byte) : (s.microReadExchange k a c).respStatus = s.respStatus := by simp [microReadExchange]
@[simp] theorem State.microReadExchange_respPresent (s : State) (k : Upc) (a : Half) (c : Byte) : (s.microReadExchange k a c).respPresent = s.respPresent := by simp [microReadExchange]
@[simp] theorem State.microReadExchange_respLen (s : State) (k : Upc) (a : Half) (c : Byte) : (s.microReadExchange k a c).respLen = s.respLen := by simp [microReadExchange]
@[simp] theorem State.microReadExchange_rdIdx (s : State) (k : Upc) (a : Half) (c : Byte) : (s.microReadExchange k a c).rdIdx = s.rdIdx := by simp [microReadExchange]
@[simp] theorem State.microReadExchange_diagPort (s : State) (k : Upc) (a : Half) (c : Byte) : (s.microReadExchange k a c).diagPort = s.diagPort := by simp [microReadExchange]
@[simp] theorem State.microReadExchange_responses (s : State) (k : Upc) (a : Half) (c : Byte) : (s.microReadExchange k a c).responses = s.responses := by simp [microReadExchange]
@[simp] theorem State.microReadExchange_rdataOut (s : State) (k : Upc) (a : Half) (c : Byte) : (s.microReadExchange k a c).rdataOut = s.rdataOut := by simp [microReadExchange]
@[simp] theorem State.microReadExchange_diagLog (s : State) (k : Upc) (a : Half) (c : Byte) : (s.microReadExchange k a c).diagLog = s.diagLog := by simp [microReadExchange]

@[simp] theorem State.microWriteExchange_upc (s : State) (k : Upc) (a : Half) (c : Byte) :
    (s.microWriteExchange k a c).upc = k := by simp [microWriteExchange]
@[simp] theorem State.microReadExchange_upc (s : State) (k : Upc) (a : Half) (c : Byte) :
    (s.microReadExchange k a c).upc = k := by simp [microReadExchange]
@[simp] theorem State.microWriteExchange_seqActive (s : State) (k : Upc) (a : Half) (c : Byte) :
    (s.microWriteExchange k a c).seqActive = true := by simp [microWriteExchange]
@[simp] theorem State.microReadExchange_seqActive (s : State) (k : Upc) (a : Half) (c : Byte) :
    (s.microReadExchange k a c).seqActive = true := by simp [microReadExchange]
@[simp] theorem State.microWriteExchange_cs (s : State) (k : Upc) (a : Half) (c : Byte) :
    (s.microWriteExchange k a c).ch.cs = false := rfl
@[simp] theorem State.microReadExchange_cs (s : State) (k : Upc) (a : Half) (c : Byte) :
    (s.microReadExchange k a c).ch.cs = false := rfl
@[simp] theorem State.microWriteExchange_answers (s : State) (k : Upc) (a : Half) (c : Byte) :
    (s.microWriteExchange k a c).answers = s.answers.tail := by simp [microWriteExchange]
@[simp] theorem State.microReadExchange_answers (s : State) (k : Upc) (a : Half) (c : Byte) :
    (s.microReadExchange k a c).answers = s.answers.tail := by simp [microReadExchange]
@[simp] theorem State.microWriteExchange_exchNo (s : State) (k : Upc) (a : Half) (c : Byte) :
    (s.microWriteExchange k a c).exchNo = s.exchNo + 1 := by simp [microWriteExchange]
@[simp] theorem State.microReadExchange_exchNo (s : State) (k : Upc) (a : Half) (c : Byte) :
    (s.microReadExchange k a c).exchNo = s.exchNo + 1 := by simp [microReadExchange]

@[simp] theorem State.microWriteExchange_diagAfter (s : State) (k : Upc) (a : Half) (c : Byte) (es : List DiagEvent) :
    (s.microWriteExchange k a c).diagAfter es = s.diagAfter es := by simp [microWriteExchange]
@[simp] theorem State.microReadExchange_diagAfter (s : State) (k : Upc) (a : Half) (c : Byte) (es : List DiagEvent) :
    (s.microReadExchange k a c).diagAfter es = s.diagAfter es := by simp [microReadExchange]

/-- The `XFER` event of a write micro-step. -/
theorem State.microWriteExchange_xferEvent (s : State) (k : Upc) (a : Half) (c d : Byte)
    (h : microRow k = some (.write a c d)) :
    (s.microWriteExchange k a c).xferEvent = .xfer .w a c [d] (!s.failsAt 0 4) := by
  rw [State.xferEvent_write _ (by simp [microWriteExchange])]
  have e : ((s.atMicroStep k).latch Device.OP_WRITE a c 1#16).payload = [d] := s.payload_microStep k a c d h
  simp [microWriteExchange, e]

/-- The bytes a read micro-step has stored: the one at offset 3. -/
@[simp] theorem State.microReadExchange_rbuf (s : State) (k : Upc) (a : Half) (c : Byte) :
    (s.microReadExchange k a c).rbuf = if s.failsAt 0 4 then [] else [s.misoAt 0 3] := by
  simp only [microReadExchange, exchange_rbuf]
  cases h : s.failsAt 0 4 <;> simp [h, misoBytes]

/-- The `XFER` event of a read micro-step. -/
@[simp] theorem State.microReadExchange_xferEvent (s : State) (k : Upc) (a : Half) (c : Byte) :
    (s.microReadExchange k a c).xferEvent =
      .xfer .r a c (if s.failsAt 0 4 then [] else [s.misoAt 0 3]) (!s.failsAt 0 4) := by
  rw [State.xferEvent_read _ (by simp [microReadExchange]), microReadExchange_rbuf]
  simp [microReadExchange]

/-- The byte a successful read micro-step compares. -/
theorem State.microReadExchange_readByte (s : State) (k : Upc) (a : Half) (c : Byte) (h : s.failsAt 0 4 = false) :
    (s.microReadExchange k a c).emitXfer.readByte = s.misoAt 0 3 := by simp [readByte, h]

/-- The bus history after a write micro-step. -/
theorem State.microWriteExchange_bus (s : State) (k : Upc) (a : Half) (c d : Byte)
    (h : microRow k = some (.write a c d)) :
    (s.failsAt 0 4 = false →
      (s.microWriteExchange k a c).bus = s.bus ++ [.exchange (header a c ++ [d]) true]) ∧
    (s.failsAt 0 4 = true →
      ∃ m, (s.microWriteExchange k a c).bus = s.bus ++ [.exchange ((header a c ++ [d]).take m) false]) := by
  have e : ((s.atMicroStep k).latch Device.OP_WRITE a c 1#16).payload = [d] := s.payload_microStep k a c d h
  have := ((s.atMicroStep k).latch Device.OP_WRITE a c 1#16).exchange_bus_write rfl (by rw [e]; rfl)
  rw [e] at this
  exact this

/-- The bus history after a read micro-step. -/
theorem State.microReadExchange_bus (s : State) (k : Upc) (a : Half) (c : Byte) :
    (s.failsAt 0 4 = false →
      (s.microReadExchange k a c).bus = s.bus ++ [.exchange (header a c ++ [0x00#8]) true]) ∧
    (s.failsAt 0 4 = true →
      ∃ m, (s.microReadExchange k a c).bus = s.bus ++ [.exchange ((header a c ++ [0x00#8]).take m) false]) :=
  ((s.atMicroStep k).latch Device.OP_READ a c 1#16).exchange_bus_read rfl

/-! ### The wait -/

/-- Ticks change the wait counter alone, and run it down. -/
theorem State.waitTicks_eq (n : Nat) : ∀ s : State, s.waitTicks n = { s with waitCnt := s.waitCnt - n } := by
  induction n with
  | zero => intro s; rfl
  | succ n ih =>
    intro s
    rw [waitTicks, ih]
    simp only [waitTick, Nat.sub_sub, Nat.add_comm 1 n]

/-- While the reset wait lasts the block is in WAIT, chip-select is released, and the counter runs down (41_bringup.md R142,
10_state.md R27). -/
theorem State.waitTicks_waiting (s : State) (n : Nat) : (s.enterWait.waitTicks n).fsm = .wait ∧
    (s.enterWait.waitTicks n).ch.cs = false ∧ (s.enterWait.waitTicks n).waitCnt = s.cfg.waitCycles - n := by
  rw [State.waitTicks_eq]
  exact ⟨rfl, rfl, rfl⟩

/-- The reset wait runs the counter to 0, with chip-select released, and performs no exchange. -/
theorem State.runWait_eq (s : State) : s.runWait =
    { s with fsm := .wait, ch := { s.ch with cs := false }, waitCnt := 0, bus := s.bus ++ [.wait s.cfg.waitCycles] } := by
  simp only [runWait, State.waitTicks_eq, enterWait, Nat.sub_self]

/-- What S1WAIT can do: the wait, then the next micro-step begins; or the reset, where `rst` rises before. -/
theorem State.runMicroStep_wait_cases (s : State) (k : Upc) :
    (s.rstCutsWait = false ∧ s.runMicroStep k .wait = (s.atMicroStep k).runWait.advance k) ∨
    ∃ n, s.pins.rstDuring = some n ∧ s.rstCutsWait = true ∧
      s.runMicroStep k .wait = (((s.atMicroStep k).enterWait).waitTicks n).doReset := by
  have e : s.runMicroStep k .wait = (s.atMicroStep k).passWait (fun t => t.advance k) := rfl
  rw [e]
  unfold rstCutsWait passWait
  rw [atMicroStep_pins, atMicroStep_cfg]
  cases hn : s.pins.rstDuring with
  | none => exact .inl ⟨by rw [Option.any_none], by dsimp only⟩
  | some n =>
    dsimp only
    by_cases h : n < s.cfg.waitCycles
    · rw [if_pos h]
      exact .inr ⟨n, rfl, by rw [Option.any_some, decide_eq_true h], by trivial⟩
    · rw [if_neg h]
      exact .inl ⟨by rw [Option.any_some, decide_eq_false h], by trivial⟩

/-- What S1WAIT does where `rst` does not rise before the wait is over. -/
theorem State.runMicroStep_wait (s : State) (k : Upc) (h : s.rstCutsWait = false) :
    s.runMicroStep k .wait = (s.atMicroStep k).runWait.advance k := by
  obtain ⟨-, e⟩ | ⟨n, -, hn, -⟩ := s.runMicroStep_wait_cases k
  · exact e
  · rw [h] at hn; cases hn

/-- What S1WAIT does, in closed form: the counter has run down, the wait stands in the bus history, and S1R begins. -/
theorem State.runMicroStep_s1wait (s : State) (h : s.rstCutsWait = false) : s.runMicroStep 1#4 rowS1WAIT =
    ({ s with fsm := .wait, ch := { s.ch with cs := false }, waitCnt := 0, upc := 1#4, seqActive := true
              bus := s.bus ++ [.wait s.cfg.waitCycles] } : State).enterMicroStep 2#4 := by
  rw [rowS1WAIT, runMicroStep_wait _ _ h, runWait_eq, advance_next _ _ (by decide),
    show (1#4 + 1#4 : Upc) = 2#4 by decide]
  rfl

/-- What S1WAIT does where `rst` rises before the wait is over. -/
theorem State.runMicroStep_wait_cut (s : State) (k : Upc) (n : Nat) (hn : s.pins.rstDuring = some n)
    (h : s.rstCutsWait = true) :
    s.runMicroStep k .wait = (((s.atMicroStep k).enterWait).waitTicks n).doReset := by
  obtain ⟨hw, -⟩ | ⟨m, hm, -, e⟩ := s.runMicroStep_wait_cases k
  · rw [h] at hw; cases hw
  · obtain rfl : m = n := by simpa [hn] using hm.symm
    exact e

/-- What a reset within the wait leaves: the values of R35, and everything outside the block as it was; no exchange is
touched. -/
theorem State.cutWait_facts (s : State) (n : Nat) (k : Upc) :
    (((s.atMicroStep k).enterWait.waitTicks n).doReset).Restarted ∧
    s.SameHost (((s.atMicroStep k).enterWait.waitTicks n).doReset) ∧
    s.SameOutside (((s.atMicroStep k).enterWait.waitTicks n).doReset) ∧
    (((s.atMicroStep k).enterWait.waitTicks n).doReset).wdataIn = s.wdataIn ∧
    (((s.atMicroStep k).enterWait.waitTicks n).doReset).bus = s.bus ∧
    (((s.atMicroStep k).enterWait.waitTicks n).doReset).answers = s.answers ∧
    (((s.atMicroStep k).enterWait.waitTicks n).doReset).exchNo = s.exchNo ∧
    (((s.atMicroStep k).enterWait.waitTicks n).doReset).ch.pulses = s.ch.pulses := by
  rw [State.waitTicks_eq]
  simp [Restarted, SameHost, SameOutside, doReset, resetCutting, State.reset, Channel.reset]

/-- What a micro-step can do: run to its end (and begin the next one), or be cut short by `rst`. -/
theorem State.runMicroStep_cases (s : State) (k : Upc) (row : MicroRow) :
    ((row ≠ .wait → s.rstCuts 4 = false) ∧ (row = .wait → s.rstCutsWait = false)) ∨
    (s.pins.rstDuring ≠ none ∧ ((∃ n t, s.SameOutside t ∧ t.wdataIn = s.wdataIn ∧ t.diagLog = s.diagLog ∧
      s.runMicroStep k row = t.cutExchange n) ∨
      ∃ n, s.runMicroStep k row = ((s.atMicroStep k).enterWait.waitTicks n).doReset)) := by
  cases row with
  | wait =>
    obtain ⟨h, -⟩ | ⟨n, h, -, e⟩ := s.runMicroStep_wait_cases k
    · exact .inl ⟨by simp, fun _ => h⟩
    · exact .inr ⟨by simp [h], .inr ⟨n, e⟩⟩
  | write a c d =>
    obtain ⟨h, -⟩ | ⟨n, hn, -, e⟩ := ((s.atMicroStep k).loadRow (.write a c d)).perform_cases (settleMicro k (.write a c d))
    · exact .inl ⟨fun _ => h, by simp⟩
    · refine .inr ⟨?_, .inl ⟨n, _, ?_, ?_, ?_, e⟩⟩ <;> simp_all [SameOutside]
  | read a c e st f =>
    obtain ⟨h, -⟩ | ⟨n, hn, -, e⟩ := ((s.atMicroStep k).loadRow (.read a c e st f)).perform_cases (settleMicro k (.read a c e st f))
    · exact .inl ⟨fun _ => h, by simp⟩
    · refine .inr ⟨?_, .inl ⟨n, _, ?_, ?_, ?_, e⟩⟩ <;> simp_all [SameOutside]

/-- Where a micro-step leads to an exchange, it is that of the next one, just begun. -/
theorem State.runMicroStep_enters (s : State) (k : Upc) (row : MicroRow) (h : (s.runMicroStep k row).fsm = .xfer) :
    k ≠ 9#4 ∧ ∃ x : State, s.runMicroStep k row = x.enterMicroStep (k + 1#4) := by
  have key : ∀ x : State, (x.advance k).fsm = .xfer →
      k ≠ 9#4 ∧ ∃ y : State, x.advance k = y.enterMicroStep (k + 1#4) := by
    intro x hx
    have hk : k ≠ 9#4 := by
      rintro rfl
      rw [advance_last] at hx
      cases hx
    exact ⟨hk, x, advance_next x k hk⟩
  obtain ⟨hx, hw⟩ | ⟨-, ⟨n, t, -, -, -, e⟩ | ⟨n, e⟩⟩ := s.runMicroStep_cases k row
  · cases row with
    | wait => rw [runMicroStep_wait _ _ (hw rfl)] at h ⊢; exact key _ h
    | write a c d =>
      rw [runMicroStep_write _ _ _ _ _ (hx (by simp))] at h ⊢
      split_ifs at h ⊢
      · cases h
      · exact key _ h
    | read a c x st f =>
      rw [runMicroStep_read _ _ _ _ _ _ _ (hx (by simp))] at h ⊢
      unfold compareByte at h ⊢
      split_ifs at h ⊢
      · cases h
      · exact key _ h
      · cases h
      · exact key _ h
  · rw [e] at h; cases h
  · rw [e] at h; cases h

/-! ### Frame of every micro-step -/

/-- A micro-step leaves alone what lies outside the block, and the host's data, whether `rst` cuts it or not. -/
theorem State.runMicroStep_frame (s : State) (k : Upc) (row : MicroRow) :
    s.SameOutside (s.runMicroStep k row) ∧ (s.runMicroStep k row).wdataIn = s.wdataIn := by
  obtain ⟨hx, hw⟩ | ⟨-, ⟨n, t, ht, hd, -, e⟩ | ⟨n, e⟩⟩ := s.runMicroStep_cases k row
  · unfold SameOutside
    cases row with
    | wait => rw [runMicroStep_wait _ _ (hw rfl), runWait_eq]; simp
    | write a c d => rw [runMicroStep_write _ _ _ _ _ (hx (by simp))]; split <;> simp
    | read a c x st f => rw [runMicroStep_read _ _ _ _ _ _ _ (hx (by simp))]; split <;> simp
  · obtain ⟨h, hw, -⟩ := t.cutExchange_frame n
    rw [e]
    unfold SameOutside at *
    exact ⟨⟨h.1.trans ht.1, h.2.1.trans ht.2.1, h.2.2.1.trans ht.2.2.1, h.2.2.2.1.trans ht.2.2.2.1,
      h.2.2.2.2.1.trans ht.2.2.2.2.1, h.2.2.2.2.2.trans ht.2.2.2.2.2⟩, hw.trans hd⟩
  · obtain ⟨-, -, h, hw, -⟩ := s.cutWait_facts n k
    rw [e]
    exact ⟨h, hw⟩

/-- A micro-step `rst` does not cut leaves `busy`, the copy of `trace_en` and the write buffer alone. -/
theorem State.runMicroStep_frame_spared (s : State) (k : Upc) (row : MicroRow)
    (hx : row ≠ .wait → s.rstCuts 4 = false) (hw : row = .wait → s.rstCutsWait = false) :
    (s.runMicroStep k row).busy = s.busy ∧ (s.runMicroStep k row).traceQ = s.traceQ ∧
      (s.runMicroStep k row).wbuf = s.wbuf := by
  cases row with
  | wait => rw [runMicroStep_wait _ _ (hw rfl), runWait_eq]; simp
  | write a c d => rw [runMicroStep_write _ _ _ _ _ (hx (by simp))]; split <;> simp
  | read a c x st f => rw [runMicroStep_read _ _ _ _ _ _ _ (hx (by simp))]; split <;> simp

end Sys2Proof.Machine
end

