-- ==== Sys2Proof/Laws/Decode.lean ====
section
/-! SUPPORT. The descriptor's fields and the decoder, one lemma an operation code. -/

namespace Sys2Proof

/-- The fields of a descriptor made of these fields. -/
@[simp] theorem Descriptor.op_make (o : Byte) (a : Half) (c : Byte) (l : Half) : op (make o a c l) = o := by
  apply BitVec.eq_of_getLsbD_eq
  intro i hi
  simp only [op, make, BitVec.getLsbD_extractLsb', BitVec.getLsbD_append, hi, decide_true, Bool.true_and]
  rw [if_neg (by omega), if_neg (by omega), if_neg (by omega)]
  congr 1
  omega

@[simp] theorem Descriptor.addr_make (o : Byte) (a : Half) (c : Byte) (l : Half) : addr (make o a c l) = a := by
  apply BitVec.eq_of_getLsbD_eq
  intro i hi
  simp only [addr, make, BitVec.getLsbD_extractLsb', BitVec.getLsbD_append, hi, decide_true, Bool.true_and]
  rw [if_neg (by omega), if_neg (by omega), if_pos (by omega)]
  congr 1
  omega

@[simp] theorem Descriptor.ctrl_make (o : Byte) (a : Half) (c : Byte) (l : Half) : ctrl (make o a c l) = c := by
  apply BitVec.eq_of_getLsbD_eq
  intro i hi
  simp only [ctrl, make, BitVec.getLsbD_extractLsb', BitVec.getLsbD_append, hi, decide_true, Bool.true_and]
  rw [if_neg (by omega), if_pos (by omega)]
  congr 1
  omega

@[simp] theorem Descriptor.len_make (o : Byte) (a : Half) (c : Byte) (l : Half) : len (make o a c l) = l := by
  apply BitVec.eq_of_getLsbD_eq
  intro i hi
  simp only [len, make, BitVec.getLsbD_extractLsb', BitVec.getLsbD_append, hi, decide_true, Bool.true_and]
  rw [if_pos (by omega)]
  congr 1
  omega

/-- A READ descriptor decodes to the READ, under its name where it is a named access. -/
theorem decode_readWord (a : Half) (c : Byte) (l : Half) :
    decode (.cmd (Descriptor.make 0x01#8 a c l)) = .ok (Instr.read a c l).named := by
  simp [decode, decodeCommand]

/-- A WRITE descriptor decodes to the WRITE, under its name where it is a named access. -/
theorem decode_writeWord (a : Half) (c : Byte) (l : Half) :
    decode (.cmd (Descriptor.make 0x02#8 a c l)) = .ok (Instr.write a c l).named := by
  simp [decode, decodeCommand]

/-- What `named` can do to a READ: nothing, or it is the named read it spells. -/
theorem Instr.named_read_cases (a : Half) (c : Byte) (l : Half) :
    (read a c l).named = read a c l ∨
    ((read a c l).named = rdMr ∧ (a, c, l) = (0x0000#16, 0x00#8, 1#16)) ∨
    ((read a c l).named = rdVersionr ∧ (a, c, l) = (0x0039#16, 0x00#8, 1#16)) := by
  simp only [named]
  split
  · exact .inr (.inl ⟨rfl, ‹_›⟩)
  · split
    · exact .inr (.inr ⟨rfl, ‹_›⟩)
    · exact .inl rfl

/-- What `named` can do to a WRITE: nothing, or it is the named write it spells. -/
theorem Instr.named_write_cases (a : Half) (c : Byte) (l : Half) :
    (write a c l).named = write a c l ∨
    ((write a c l).named = wrGar ∧ (a, c, l) = (0x0001#16, 0x04#8, 4#16)) ∨
    ((write a c l).named = wrSubr ∧ (a, c, l) = (0x0005#16, 0x04#8, 4#16)) ∨
    ((write a c l).named = wrShar ∧ (a, c, l) = (0x0009#16, 0x04#8, 6#16)) ∨
    ((write a c l).named = wrSipr ∧ (a, c, l) = (0x000F#16, 0x04#8, 4#16)) ∨
    ((write a c l).named = wrMr ∧ (a, c, l) = (0x0000#16, 0x04#8, 1#16)) := by
  simp only [named]
  split
  · exact .inr (.inl ⟨rfl, ‹_›⟩)
  · split
    · exact .inr (.inr (.inl ⟨rfl, ‹_›⟩))
    · split
      · exact .inr (.inr (.inr (.inl ⟨rfl, ‹_›⟩)))
      · split
        · exact .inr (.inr (.inr (.inr (.inl ⟨rfl, ‹_›⟩))))
        · split
          · exact .inr (.inr (.inr (.inr (.inr ⟨rfl, ‹_›⟩))))
          · exact .inl rfl

end Sys2Proof
end

