-- ==== Sys2Proof/Laws/Inputs.lean ====
section
/-! SUPPORT. What the two updates of the inputs around exec do to each field of State. -/

namespace Sys2Proof.Machine

open Sys2Proof

/-! ### `popCommand` -/

@[simp] theorem State.popCommand_cfg (s : State) : (s.popCommand).cfg = s.cfg := rfl
@[simp] theorem State.popCommand_pins (s : State) : (s.popCommand).pins = s.pins := rfl
@[simp] theorem State.popCommand_pinScript (s : State) : (s.popCommand).pinScript = s.pinScript := rfl
@[simp] theorem State.popCommand_cmdIn (s : State) : (s.popCommand).cmdIn = s.cmdIn.tail := rfl
@[simp] theorem State.popCommand_wdataIn (s : State) : (s.popCommand).wdataIn = s.wdataIn := rfl
@[simp] theorem State.popCommand_answers (s : State) : (s.popCommand).answers = s.answers := rfl
@[simp] theorem State.popCommand_exchNo (s : State) : (s.popCommand).exchNo = s.exchNo := rfl
@[simp] theorem State.popCommand_fsm (s : State) : (s.popCommand).fsm = s.fsm := rfl
@[simp] theorem State.popCommand_seqActive (s : State) : (s.popCommand).seqActive = s.seqActive := rfl
@[simp] theorem State.popCommand_busy (s : State) : (s.popCommand).busy = s.busy := rfl
@[simp] theorem State.popCommand_opQ (s : State) : (s.popCommand).opQ = s.opQ := rfl
@[simp] theorem State.popCommand_addrQ (s : State) : (s.popCommand).addrQ = s.addrQ := rfl
@[simp] theorem State.popCommand_ctrlQ (s : State) : (s.popCommand).ctrlQ = s.ctrlQ := rfl
@[simp] theorem State.popCommand_lenQ (s : State) : (s.popCommand).lenQ = s.lenQ := rfl
@[simp] theorem State.popCommand_traceQ (s : State) : (s.popCommand).traceQ = s.traceQ := rfl
@[simp] theorem State.popCommand_wbuf (s : State) : (s.popCommand).wbuf = s.wbuf := rfl
@[simp] theorem State.popCommand_rbuf (s : State) : (s.popCommand).rbuf = s.rbuf := rfl
@[simp] theorem State.popCommand_idx (s : State) : (s.popCommand).idx = s.idx := rfl
@[simp] theorem State.popCommand_upc (s : State) : (s.popCommand).upc = s.upc := rfl
@[simp] theorem State.popCommand_waitCnt (s : State) : (s.popCommand).waitCnt = s.waitCnt := rfl
@[simp] theorem State.popCommand_failSeen (s : State) : (s.popCommand).failSeen = s.failSeen := rfl
@[simp] theorem State.popCommand_ch (s : State) : (s.popCommand).ch = s.ch := rfl
@[simp] theorem State.popCommand_respValid (s : State) : (s.popCommand).respValid = s.respValid := rfl
@[simp] theorem State.popCommand_respStatus (s : State) : (s.popCommand).respStatus = s.respStatus := rfl
@[simp] theorem State.popCommand_respPresent (s : State) : (s.popCommand).respPresent = s.respPresent := rfl
@[simp] theorem State.popCommand_respLen (s : State) : (s.popCommand).respLen = s.respLen := rfl
@[simp] theorem State.popCommand_rdIdx (s : State) : (s.popCommand).rdIdx = s.rdIdx := rfl
@[simp] theorem State.popCommand_diagPort (s : State) : (s.popCommand).diagPort = s.diagPort := rfl
@[simp] theorem State.popCommand_sent (s : State) : (s.popCommand).sent = s.sent := rfl
@[simp] theorem State.popCommand_bus (s : State) : (s.popCommand).bus = s.bus := rfl
@[simp] theorem State.popCommand_responses (s : State) : (s.popCommand).responses = s.responses := rfl
@[simp] theorem State.popCommand_rdataOut (s : State) : (s.popCommand).rdataOut = s.rdataOut := rfl
@[simp] theorem State.popCommand_diagLog (s : State) : (s.popCommand).diagLog = s.diagLog := rfl

/-! ### `tickPins` -/

@[simp] theorem State.tickPins_cfg (s : State) : (s.tickPins).cfg = s.cfg := rfl
@[simp] theorem State.tickPins_pins (s : State) : (s.tickPins).pins = s.pinScript.headD s.pins := rfl
@[simp] theorem State.tickPins_pinScript (s : State) : (s.tickPins).pinScript = s.pinScript.tail := rfl
@[simp] theorem State.tickPins_cmdIn (s : State) : (s.tickPins).cmdIn = s.cmdIn := rfl
@[simp] theorem State.tickPins_wdataIn (s : State) : (s.tickPins).wdataIn = s.wdataIn := rfl
@[simp] theorem State.tickPins_answers (s : State) : (s.tickPins).answers = s.answers := rfl
@[simp] theorem State.tickPins_exchNo (s : State) : (s.tickPins).exchNo = s.exchNo := rfl
@[simp] theorem State.tickPins_fsm (s : State) : (s.tickPins).fsm = s.fsm := rfl
@[simp] theorem State.tickPins_seqActive (s : State) : (s.tickPins).seqActive = s.seqActive := rfl
@[simp] theorem State.tickPins_busy (s : State) : (s.tickPins).busy = s.busy := rfl
@[simp] theorem State.tickPins_opQ (s : State) : (s.tickPins).opQ = s.opQ := rfl
@[simp] theorem State.tickPins_addrQ (s : State) : (s.tickPins).addrQ = s.addrQ := rfl
@[simp] theorem State.tickPins_ctrlQ (s : State) : (s.tickPins).ctrlQ = s.ctrlQ := rfl
@[simp] theorem State.tickPins_lenQ (s : State) : (s.tickPins).lenQ = s.lenQ := rfl
@[simp] theorem State.tickPins_traceQ (s : State) : (s.tickPins).traceQ = s.traceQ := rfl
@[simp] theorem State.tickPins_wbuf (s : State) : (s.tickPins).wbuf = s.wbuf := rfl
@[simp] theorem State.tickPins_rbuf (s : State) : (s.tickPins).rbuf = s.rbuf := rfl
@[simp] theorem State.tickPins_idx (s : State) : (s.tickPins).idx = s.idx := rfl
@[simp] theorem State.tickPins_upc (s : State) : (s.tickPins).upc = s.upc := rfl
@[simp] theorem State.tickPins_waitCnt (s : State) : (s.tickPins).waitCnt = s.waitCnt := rfl
@[simp] theorem State.tickPins_failSeen (s : State) : (s.tickPins).failSeen = s.failSeen := rfl
@[simp] theorem State.tickPins_ch (s : State) : (s.tickPins).ch = s.ch := rfl
@[simp] theorem State.tickPins_respValid (s : State) : (s.tickPins).respValid = s.respValid := rfl
@[simp] theorem State.tickPins_respStatus (s : State) : (s.tickPins).respStatus = s.respStatus := rfl
@[simp] theorem State.tickPins_respPresent (s : State) : (s.tickPins).respPresent = s.respPresent := rfl
@[simp] theorem State.tickPins_respLen (s : State) : (s.tickPins).respLen = s.respLen := rfl
@[simp] theorem State.tickPins_rdIdx (s : State) : (s.tickPins).rdIdx = s.rdIdx := rfl
@[simp] theorem State.tickPins_diagPort (s : State) : (s.tickPins).diagPort = s.diagPort := rfl
@[simp] theorem State.tickPins_sent (s : State) : (s.tickPins).sent = s.sent := rfl
@[simp] theorem State.tickPins_bus (s : State) : (s.tickPins).bus = s.bus := rfl
@[simp] theorem State.tickPins_responses (s : State) : (s.tickPins).responses = s.responses := rfl
@[simp] theorem State.tickPins_rdataOut (s : State) : (s.tickPins).rdataOut = s.rdataOut := rfl
@[simp] theorem State.tickPins_diagLog (s : State) : (s.tickPins).diagLog = s.diagLog := rfl

end Sys2Proof.Machine
end

