-- ==== Sys2Proof/Laws/Step.lean ====
section
/-! SUPPORT. What a step can do, said once: every decoded command is a READ, a WRITE or a BRINGUP, every micro-step with
a row runs that row, and a step takes one of seven actions. -/

namespace Sys2Proof.Machine

open Sys2Proof

/-- A decoded command is a transport operation or a BRINGUP. -/
theorem exec_command_cases (d : Descriptor) (i : Instr) (h : decode (.cmd d) = .ok i) :
    (∃ a c l, ∀ s, exec i s = .next (s.transportRead a c l)) ∨
    (∃ a c l, ∀ s, exec i s = .next (s.transportWrite a c l)) ∨
    ∀ s, exec i s = .next s.startBringup := by
  simp only [decode, decodeCommand] at h
  split at h
  · left
    injection h with h
    subst h
    rcases Instr.named_read_cases (Descriptor.addr d) (Descriptor.ctrl d) (Descriptor.len d) with e | ⟨e, -⟩ | ⟨e, -⟩ <;>
      rw [e] <;> exact ⟨_, _, _, fun s => rfl⟩
  · split at h
    · right
      left
      injection h with h
      subst h
      rcases Instr.named_write_cases (Descriptor.addr d) (Descriptor.ctrl d) (Descriptor.len d) with
        e | ⟨e, -⟩ | ⟨e, -⟩ | ⟨e, -⟩ | ⟨e, -⟩ | ⟨e, -⟩ <;> rw [e] <;> exact ⟨_, _, _, fun s => rfl⟩
    · split at h
      · right
        right
        injection h with h
        subst h
        exact fun s => rfl
      · cases h

/-- A micro-step with a row of the micro-step table decodes, and runs that row. -/
theorem exec_microStep (k : Upc) (row : MicroRow) (h : microRow k = some row) :
    ∃ i, decode (.ustep k) = .ok i ∧ ∀ s, exec i s = .next (s.runMicroStep k row) := by
  have hk : ∀ n : Fin 16, ∀ row, microRow (BitVec.ofFin n) = some row →
      ∃ i, decode (.ustep (BitVec.ofFin n)) = .ok i ∧ ∀ s, exec i s = .next (s.runMicroStep (BitVec.ofFin n) row) := by
    intro n row h
    match n with
    | 0 | 1 | 2 | 3 | 4 | 5 | 6 | 7 | 8 | 9 => cases h; exact ⟨_, rfl, fun s => rfl⟩
    | 10 | 11 | 12 | 13 | 14 | 15 => cases h
  exact hk k.toFin row h

/-- The micro-step table has the rows 0 to 9. -/
theorem microRow_isSome (k : Upc) : (microRow k).isSome = decide (k.toNat ≤ 9) := by
  revert k
  decide

/-- While the sequence is active and a row stands at `upc`, the micro-step action is that row. -/
theorem step_microStep (s : State) (row : MicroRow) (hr : microRow s.upc = some row)
    (h : s.clearDiag.nextAction = .microStep) :
    step s = .next (s.clearDiag.runMicroStep s.upc row).tickPins := by
  obtain ⟨i, hd, he⟩ := exec_microStep s.upc row hr
  simp only [step, h, hd, he, advancePins]

/-- When each action is taken: `rst` first, then by engine state. -/
theorem State.nextAction_spec (s : State) :
    match s.nextAction with
    | .reset => s.pins.rst = true
    | .idle => s.pins.rst = false ∧ s.fsm = .idle ∧ s.presented = none
    | .command d => s.pins.rst = false ∧ s.fsm = .idle ∧ s.presented = some d
    | .load => s.pins.rst = false ∧ s.fsm = .load
    | .microStep => s.pins.rst = false ∧ (s.fsm = .wait ∨
        (s.fsm = .xfer ∧ s.seqActive = true ∧ (s.idx = 0#17 ∨ microRow s.upc = none)) ∨
        (s.fsm = .resp ∧ s.seqActive = true ∧ s.respValid = false))
    | .resume => s.pins.rst = false ∧ s.fsm = .xfer ∧
        (s.seqActive = false ∨ (s.idx ≠ 0#17 ∧ microRow s.upc ≠ none))
    | .deliver => s.pins.rst = false ∧ s.fsm = .resp ∧ (s.seqActive = false ∨ s.respValid = true) := by
  unfold nextAction
  cases hr : s.pins.rst
  · cases hf : s.fsm
    · cases hp : s.presented <;> simp
    · simp
    · by_cases h : (s.seqActive && (s.idx == 0#17 || (microRow s.upc).isNone)) = true
      · simp only [h, if_true]
        simp_all
      · rw [Bool.not_eq_true] at h
        simp only [h]
        cases hq : s.seqActive <;> cases hm : microRow s.upc <;> simp_all
    · simp
    · by_cases h : (s.seqActive && !s.respValid) = true
      · simp only [h, if_true]
        simp_all
      · rw [Bool.not_eq_true] at h
        simp only [h]
        cases hq : s.seqActive <;> simp_all
  · simp

end Sys2Proof.Machine
end

