-- ==== Sys2Proof/Laws/Invariant.lean ====
section
/-! SUPPORT. The state invariant, operation by operation: what each shared operation needs to give or keep it, and what a
micro-step of an active sequence can lead to. -/

namespace Sys2Proof.Machine

open Sys2Proof

/-- The part of the invariant that concerns the channel and the latched length. -/
structure State.Settled (s : State) : Prop where
  len_le : s.lenQ.toNat ≤ s.cfg.maxLen
  idx_le : s.idx.toNat ≤ 3 + s.cfg.maxLen
  sclk_low : s.ch.sclk = false
  bits_whole : s.ch.bitCnt = 0#3

/-- The invariant contains the settled channel and latches. -/
theorem State.Inv.settled {s : State} (h : s.Inv) : State.Settled s := ⟨h.len_le, h.idx_le, h.sclk_low, h.bits_whole⟩

/-- MAXLEN is at least 255 in every build (00_scope.md R6). -/
theorem Params.maxLen_ge (p : Params) : 255 ≤ p.maxLen := by simp [Params.maxLen]

/-- An exchange leaves channel and latches settled. -/
theorem State.Settled.exchange {s : State} (h : State.Settled s) : State.Settled s.exchange := by
  obtain ⟨m, hm, -, hi, -⟩ := s.exchange_sent
  obtain ⟨a, b⟩ := s.exchange_rest h.sclk_low h.bits_whole
  have h1 := h.len_le
  refine ⟨by simpa using h1, ?_, a, b⟩
  rw [hi]; simp only [State.exchange_cfg]; simp only [State.frameLen] at hm; omega

/-- Being settled depends on these fields alone. -/
theorem State.Settled.congr {s t : State} (h : State.Settled s) (h1 : t.lenQ = s.lenQ) (h2 : t.cfg = s.cfg) (h3 : t.idx = s.idx)
    (h4 : t.ch.sclk = s.ch.sclk) (h5 : t.ch.bitCnt = s.ch.bitCnt) : State.Settled t := by
  obtain ⟨a, b, c, d⟩ := h
  exact ⟨by rw [h1, h2]; exact a, by rw [h3, h2]; exact b, by rw [h4]; exact c, by rw [h5]; exact d⟩

/-- Entering a micro-step leaves channel and latches settled. -/
theorem State.Settled.enterMicroStep {s : State} (h : State.Settled s) (k : Upc) : State.Settled (s.enterMicroStep k) := by
  obtain ⟨a, b, c, d⟩ := h
  have := Params.maxLen_ge s.cfg
  unfold State.enterMicroStep
  split
  · exact ⟨a, b, c, d⟩
  · rename_i row _ _
    have h1 : (1#16).toNat ≤ s.cfg.maxLen := by simp; omega
    cases row with
    | wait => exact ⟨a, by simp, by simpa using c, by simpa using d⟩
    | write x y z => exact ⟨h1, by simp, by simpa using c, by simpa using d⟩
    | read x y z w v => exact ⟨h1, by simp, by simpa using c, by simpa using d⟩
  · exact ⟨a, b, c, d⟩

/-- The end of a READ or WRITE leaves channel and latches settled. -/
theorem State.Settled.settleSingle {s : State} (h : State.Settled s) : State.Settled s.settleSingle := by
  rw [State.settleSingle_eq]
  exact State.Settled.congr h (by simp) (by simp) (by simp) (by simp) (by simp)

/-- A state with a fresh response has the invariant. -/
theorem State.Inv.of_resp {s : State} (hb : State.Settled s) (h1 : s.busy = true) (h2 : s.fsm = .resp) (h3 : s.ch.cs = false)
    (h4 : s.respValid = true)
    (h5 : s.seqActive = true → (s.upc = 10#4 ∨ s.upc = 11#4) ∧ s.respStatus = .ok ∧ s.respLen = 0#16) (h6 : s.waitCnt = 0)
    (h9 : s.rdIdx = 0) (h7 : s.respLen ≠ 0#16 → s.rbuf.length = s.respLen.toNat)
    (h8 : s.respStatus ≠ .ok → s.respLen = 0#16 ∧ s.respPresent = false) : s.Inv := by
  obtain ⟨a, b, c, d⟩ := hb
  constructor <;> simp_all

/-- Refusing a command keeps the invariant. -/
theorem State.Inv.refuseCommand {s : State} (h : s.Inv) (hi : s.fsm = .idle) : s.refuseCommand.Inv := by
  have hs : s.seqActive = false := by
    by_contra hc; have := h.seq_step (by simpa using hc); simp [hi] at this
  have hc : s.ch.cs = false := by
    by_contra hc; have := h.cs_iff.1 (by simpa using hc); simp [hi] at this
  have hw := h.wait_zero (by simp [hi])
  apply State.Inv.of_resp (State.Settled.congr (State.Inv.settled h) (by simp) (by simp) (by simp) (by simp) (by simp)) <;> simp [hs, hc, hw]

/-- Reset gives the invariant from every state. -/
theorem State.resetCutting_inv (bits : List Bool) (s : State) : (s.resetCutting bits).Inv := by
  constructor <;> simp [State.resetCutting, State.reset, Channel.reset]

/-- The exchange of a READ or WRITE with its settlement gives the invariant, also where `rst` cuts it short. -/
theorem State.Inv.single {s : State} (hb : State.Settled s) (h1 : s.busy = true) (h5 : s.seqActive = false) (h6 : s.waitCnt = 0) :
    (s.perform State.settleSingle).Inv := by
  obtain ⟨-, e⟩ | ⟨n, -, -, e⟩ := s.perform_cases State.settleSingle
  case inr => rw [e]; exact State.resetCutting_inv _ _
  rw [e]
  apply State.Inv.of_resp (State.Settled.settleSingle (State.Settled.exchange hb)) <;> rw [State.settleSingle_eq] <;> simp [h1, h5, h6]
  · intro hh
    rw [State.exchange_rbuf]
    split_ifs with h
    · simp [State.misoBytes, h]
    · simp_all
  · intro a b; simp [a] at b

/-- What the invariant says of an idle block. -/
theorem State.Inv.idle_facts {s : State} (h : s.Inv) (hi : s.fsm = .idle) : s.seqActive = false ∧ s.ch.cs = false ∧ s.waitCnt = 0 := by
  refine ⟨?_, ?_, h.wait_zero (by simp [hi])⟩
  · by_contra hc; have := h.seq_step (by simpa using hc); simp [hi] at this
  · by_contra hc; have := h.cs_iff.1 (by simpa using hc); simp [hi] at this

/-- A READ keeps the invariant. -/
theorem State.Inv.transportRead {s : State} (h : s.Inv) (hi : s.fsm = .idle) (a c l) : (s.transportRead a c l).Inv := by
  obtain ⟨hs, hc, hw⟩ := State.Inv.idle_facts h hi
  unfold State.transportRead
  split_ifs with hl
  · apply State.Inv.single
    · simp only [State.lenOk, decide_eq_true_eq] at hl
      exact ⟨by simpa using hl, by simpa using h.idx_le, by simpa using h.sclk_low, by simpa using h.bits_whole⟩
    · simp
    · simp
    · simpa using hw
  · exact State.Inv.refuseCommand h hi

/-- Going on in LOAD gives the invariant. -/
theorem State.Inv.continueLoad {s : State} (hb : State.Settled s) (h1 : s.busy = true) (h2 : s.fsm = .load) (h3 : s.ch.cs = false)
    (h5 : s.seqActive = false) (h6 : s.waitCnt = 0) (ho : s.opQ = Device.OP_WRITE)
    (hv : s.respValid = false) (hl : s.wbuf.length ≤ s.lenQ.toNat)
    (h8 : s.respStatus ≠ .ok → s.respLen = 0#16 ∧ s.respPresent = false) : s.continueLoad.Inv := by
  unfold State.continueLoad
  split_ifs with hc
  · exact State.Inv.single (State.Settled.congr hb (by simp) (by simp) (by simp) (by simp) (by simp)) (by simpa) (by simpa) (by simpa)
  · have hw := s.collect_length hl
    obtain ⟨a, b, c, d⟩ := hb
    simp only [State.loaded, decide_eq_true_eq] at hc
    simp at hc
    constructor <;> simp_all

/-- A WRITE keeps the invariant. -/
theorem State.Inv.transportWrite {s : State} (h : s.Inv) (hi : s.fsm = .idle) (a c l) : (s.transportWrite a c l).Inv := by
  obtain ⟨hs, hc, hw⟩ := State.Inv.idle_facts h hi
  have hv : s.respValid = false := by
    by_contra hc; have := h.valid_resp (by simpa using hc); simp [hi] at this
  unfold State.transportWrite
  split_ifs with hl
  · simp only [State.lenOk, decide_eq_true_eq] at hl
    apply State.Inv.continueLoad
    · exact ⟨by simpa using hl, by simpa using h.idx_le, by simpa using h.sclk_low, by simpa using h.bits_whole⟩
    all_goals first | simp [hc, hw, hv] ; done | skip
    simpa using h.error_empty
  · exact State.Inv.refuseCommand h hi

/-- Entering a micro-step gives the invariant. -/
theorem State.Inv.enterMicroStep {s : State} (hb : State.Settled s) (k : Upc) (hk : k.toNat ≤ 9) (h1 : s.busy = true)
    (hw : s.waitCnt = 0) (hv : s.respValid = false)
    (h8 : s.respStatus ≠ .ok → s.respLen = 0#16 ∧ s.respPresent = false) : (s.enterMicroStep k).Inv := by
  by_cases e : k = 1#4
  · subst e
    have hb' := State.Settled.enterMicroStep hb 1#4
    rw [State.enterMicroStep_wait] at *
    obtain ⟨a, b, c, d⟩ := hb'
    constructor <;> simp_all
  · obtain ⟨u, f, c, i, -⟩ := State.enterMicroStep_begins k s hk e
    obtain ⟨a, b, c', d⟩ := State.Settled.enterMicroStep hb k
    have hwc : (s.enterMicroStep k).waitCnt = 0 := by
      have e : ∀ k : Upc, k ≠ 1#4 → microRow k ≠ some .wait := by decide
      unfold State.enterMicroStep
      split
      · rename_i h; exact absurd h (e k ‹_›)
      · simpa using hw
      · exact hw
    constructor <;> simp_all
  
/-- The acceptance of a BRINGUP keeps the invariant. -/
theorem State.Inv.startBringup {s : State} (h : s.Inv) (hi : s.fsm = .idle) : s.startBringup.Inv := by
  obtain ⟨hs, hc, hw⟩ := State.Inv.idle_facts h hi
  have hv : s.respValid = false := by
    by_contra hc; have := h.valid_resp (by simpa using hc); simp [hi] at this
  apply State.Inv.enterMicroStep
  · exact State.Settled.congr (State.Inv.settled h) (by simp) (by simp) (by simp) (by simp) (by simp)
  · simp
  · simp
  · simpa using hw
  · simpa using hv
  · simpa using h.error_empty

/-- The terminal action `Absent` gives the invariant. -/
theorem State.Inv.finishAbsent {s : State} (hb : State.Settled s) (h1 : s.busy = true) (h3 : s.ch.cs = false) (h6 : s.waitCnt = 0) :
    s.finishAbsent.Inv := by
  apply State.Inv.of_resp (State.Settled.congr hb (by simp) (by simp) (by simp) (by simp) (by simp)) <;> simp [h1, h3, h6]
/-- The terminal action `Present` gives the invariant. -/
theorem State.Inv.finishPresent {s : State} (hb : State.Settled s) (h1 : s.busy = true) (h3 : s.ch.cs = false) (h6 : s.waitCnt = 0) :
    s.finishPresent.Inv := by
  apply State.Inv.of_resp (State.Settled.congr hb (by simp) (by simp) (by simp) (by simp) (by simp)) <;> simp [h1, h3, h6]

/-- Advancing from a micro-step gives the invariant. -/
theorem State.Inv.advance {s : State} (hb : State.Settled s) (k : Upc) (hk : k.toNat ≤ 9) (h1 : s.busy = true) (h3 : s.ch.cs = false)
    (hw : s.waitCnt = 0) (hv : s.respValid = false)
    (h8 : s.respStatus ≠ .ok → s.respLen = 0#16 ∧ s.respPresent = false) : (s.advance k).Inv := by
  by_cases e : k = 9#4
  · subst e; exact State.Inv.finishPresent hb h1 h3 hw
  · rw [State.advance_next _ _ e]
    refine State.Inv.enterMicroStep hb _ ?_ h1 hw hv h8
    have : ∀ k : Upc, k.toNat ≤ 9 → k ≠ 9#4 → (k + 1#4).toNat ≤ 9 := by decide
    exact this k hk e

/-- Where a row of the micro-step table stands, an active sequence is at work on it. -/
theorem State.Inv.micro_facts {s : State} (h : s.Inv) (hs : s.seqActive = true) (row) (hr : microRow s.upc = some row) :
    s.upc.toNat ≤ 9 ∧ s.busy = true ∧ s.respValid = false ∧ (row ≠ .wait → s.waitCnt = 0) := by
  have hk : s.upc.toNat ≤ 9 := by simpa [hr] using (microRow_isSome s.upc).symm
  have hrow : ∀ k : Upc, (microRow k).all (fun row => decide (k = 1#4 ↔ row = .wait)) = true := by decide
  have hw : s.upc = 1#4 ↔ row = .wait := by have := hrow s.upc; rw [hr] at this; simpa using this
  have hf : s.fsm ≠ .idle ∧ s.fsm ≠ .resp ∧ (row ≠ .wait → s.fsm ≠ .wait) := by
    rcases h.seq_step hs with ⟨h, _, _⟩ | ⟨h, hu⟩ | ⟨-, hu, -⟩
    · simp [h]
    · exact ⟨by simp [h], by simp [h], fun hh => absurd (hw.1 hu) hh⟩
    · rcases hu with hu | hu <;> simp [hu] at hk
  refine ⟨hk, h.busy_iff.2 hf.1, ?_, fun hh => h.wait_zero (hf.2.2 hh)⟩
  by_contra hc
  exact hf.2.1 (h.valid_resp (by simpa using hc))

/-- A micro-step of an active sequence keeps the invariant, also where `rst` cuts it short. -/
theorem State.Inv.runMicroStep {s : State} (h : s.Inv) (hs : s.seqActive = true) (row) (hr : microRow s.upc = some row) :
    (s.runMicroStep s.upc row).Inv := by
  obtain ⟨hk, hbu, hv, hww⟩ := State.Inv.micro_facts h hs row hr
  have hb := State.Inv.settled h
  have hm := Params.maxLen_ge s.cfg
  obtain ⟨hx, hw⟩ | ⟨-, ⟨n, t, -, -, -, e⟩ | ⟨n, e⟩⟩ := s.runMicroStep_cases s.upc row
  case inr.inl => rw [e]; exact State.resetCutting_inv _ _
  case inr.inr => rw [e]; exact State.resetCutting_inv _ _
  cases row with
  | wait =>
    rw [State.runMicroStep_wait _ _ (hw rfl), State.runWait_eq]
    apply State.Inv.advance
    · exact State.Settled.congr hb rfl rfl rfl rfl rfl
    all_goals first | assumption | rfl | skip
    exact h.error_empty
  | write a c d =>
    have hwz := hww (by simp)
    have hb2 : State.Settled (s.microWriteExchange s.upc a c).emitXfer := by
      have : State.Settled (s.microWriteExchange s.upc a c) := State.Settled.exchange
        (s := ((s.atMicroStep s.upc).latch Device.OP_WRITE a c 1#16)) ⟨show 1 ≤ s.cfg.maxLen by omega, hb.2, hb.3, hb.4⟩
      exact State.Settled.congr this (by simp) (by simp) (by simp) (by simp) (by simp)
    rw [State.runMicroStep_write _ _ _ _ _ (hx (by simp))]
    split_ifs
    · exact State.Inv.finishAbsent (State.Settled.congr hb2 (by simp) (by simp) (by simp) (by simp) (by simp)) (by simpa) (by simp) (by simpa)
    · apply State.Inv.advance hb2 _ hk <;> simp [hbu, hwz, hv]
      simpa using h.error_empty
  | read a c e st f =>
    have hwz := hww (by simp)
    have hb2 : State.Settled (s.microReadExchange s.upc a c).emitXfer := by
      have : State.Settled (s.microReadExchange s.upc a c) := State.Settled.exchange
        (s := ((s.atMicroStep s.upc).latch Device.OP_READ a c 1#16)) ⟨show 1 ≤ s.cfg.maxLen by omega, hb.2, hb.3, hb.4⟩
      exact State.Settled.congr this (by simp) (by simp) (by simp) (by simp) (by simp)
    rw [State.runMicroStep_read _ _ _ _ _ _ _ (hx (by simp))]
    split_ifs
    · exact State.Inv.finishAbsent (State.Settled.congr hb2 (by simp) (by simp) (by simp) (by simp) (by simp)) (by simpa) (by simp) (by simpa)
    · unfold State.compareByte
      split_ifs
      · apply State.Inv.advance hb2 _ hk <;> simp [hbu, hwz, hv]
        simpa using h.error_empty
      · exact State.Inv.finishAbsent (State.Settled.congr hb2 (by simp) (by simp) (by simp) (by simp) (by simp)) (by simpa) (by simp) (by simpa)
      · apply State.Inv.advance (State.Settled.congr hb2 (by simp) (by simp) (by simp) (by simp) (by simp)) _ hk <;> simp [hbu, hwz, hv]
        simpa using h.error_empty

/-- New pin levels keep the invariant. -/
theorem State.Inv.tickPins {s : State} (h : s.Inv) : s.tickPins.Inv := by
  obtain ⟨h1, h2, h3, h4, h5, h6, h7, h8, h9, h10, h11, h12, h13, h14, h15, h16⟩ := h
  exact ⟨h1, h2, h3, h4, h5, h6, h7, h8, h9, h10, h11, h12, h13, h14, h15, h16⟩
/-- Clearing the diagnostic port keeps the invariant. -/
theorem State.Inv.clearDiag {s : State} (h : s.Inv) : s.clearDiag.Inv := by
  obtain ⟨h1, h2, h3, h4, h5, h6, h7, h8, h9, h10, h11, h12, h13, h14, h15, h16⟩ := h
  exact ⟨h1, h2, h3, h4, h5, h6, h7, h8, h9, h10, h11, h12, h13, h14, h15, h16⟩
/-- Taking the descriptor keeps the invariant. -/
theorem State.Inv.popCommand {s : State} (h : s.Inv) : s.popCommand.Inv := by
  obtain ⟨h1, h2, h3, h4, h5, h6, h7, h8, h9, h10, h11, h12, h13, h14, h15, h16⟩ := h
  exact ⟨h1, h2, h3, h4, h5, h6, h7, h8, h9, h10, h11, h12, h13, h14, h15, h16⟩

/-- Going idle keeps the invariant. -/
theorem State.Inv.goIdle {s : State} (h : s.Inv) (hf : s.fsm = .resp) (hq : s.seqActive = false)
    (hv : s.respValid = false) : s.goIdle.Inv := by
  obtain ⟨h1, h2, h3, h4, h5, h6, h7, h8, h9, h10, h11, h12, h13, h14, h15, h16⟩ := h
  constructor <;> simp_all

/-- Delivering a response or a data byte keeps the invariant. -/
theorem State.Inv.deliver {s : State} (h : s.Inv) (hf : s.fsm = .resp) : s.deliver.Inv := by
  unfold State.deliver
  split_ifs with hv hr hr
  · rw [State.takeResponse_eq]
    obtain ⟨h1, h2, h3, h4, h5, h6, h7, h8, h9, h10, h11, h12, h13, h14, h15, h16⟩ := h
    split_ifs with hl
    · constructor <;> simp_all
    · constructor <;> simp_all
      exact Nat.pos_of_ne_zero (fun e => hl (BitVec.eq_of_toNat_eq e))
  · exact h
  · unfold State.takeByte
    have hl := h.data_left hf (by simpa using hv)
    have hlen := h.data_len hf (by intro e; simp [e] at hl)
    have hd : s.rdata = some (s.rbuf[s.rdIdx]'(by omega)) := by simp [State.rdata, hlen, hl]
    rw [hd]
    obtain ⟨h1, h2, h3, h4, h5, h6, h7, h8, h9, h10, h11, h12, h13, h14, h15, h16⟩ := h
    simp only
    split_ifs
    · constructor <;> simp_all
    · constructor <;> simp_all
  · exact h

/-- Micro-step `k` of `s` has led to `t`: the next micro-step, or the end of the sequence with an OK. -/
def State.Progress (s t : State) (k : Upc) : Prop :=
  (t.seqActive = true ∧ t.upc = k + 1#4 ∧ k ≠ 9#4 ∧ t.fsm ≠ .resp ∧ t.respValid = s.respValid) ∨
  (t.seqActive = true ∧ t.fsm = .resp ∧ (k = 9#4 ∧ t.upc = 10#4 ∨ t.upc = 11#4) ∧ t.respStatus = .ok ∧ t.respLen = 0#16)

/-- Advancing an active sequence is progress. -/
theorem State.advance_progress (s t : State) (k : Upc) (ht : t.seqActive = true) (hf : t.fsm ≠ .resp)
    (hv : t.respValid = s.respValid) : s.Progress (t.advance k) k := by
  by_cases e : k = 9#4
  · right; rw [e, State.advance_last]; simp [ht]
  · left
    rw [State.advance_next _ _ e]
    refine ⟨by simp, by simp, e, ?_, by simpa⟩
    unfold State.enterMicroStep
    split
    · simp
    · simp
    · simpa using hf

/-- What a micro-step can lead to: progress, or the reset that cuts it short. -/
theorem State.runMicroStep_outcome (s : State) (k : Upc) (row : MicroRow) :
    s.Progress (s.runMicroStep k row) k ∨ (s.pins.rstDuring ≠ none ∧ (s.runMicroStep k row).Restarted) := by
  have spared : (row ≠ .wait → s.rstCuts 4 = false) → (row = .wait → s.rstCutsWait = false) →
      s.Progress (s.runMicroStep k row) k := by
    intro hx hw
    cases row with
    | wait => rw [State.runMicroStep_wait _ _ (hw rfl), State.runWait_eq]; exact s.advance_progress _ _ rfl (by simp) rfl
    | write a c d =>
      rw [State.runMicroStep_write _ _ _ _ _ (hx (by simp))]; split_ifs
      · right; simp [State.abortOnBusFailure]
      · exact s.advance_progress _ _ (by simp) (by simp [State.microWriteExchange]) (by simp)
    | read a c e st f =>
      rw [State.runMicroStep_read _ _ _ _ _ _ _ (hx (by simp))]; split_ifs
      · right; simp [State.abortOnBusFailure]
      · unfold State.compareByte; split_ifs
        · exact s.advance_progress _ _ (by simp) (by simp [State.microReadExchange]) (by simp)
        · right; simp
        · exact s.advance_progress _ _ (by simp) (by simp [State.microReadExchange]) (by simp)
  obtain ⟨hx, hw⟩ | ⟨hn, ⟨n, t, -, -, -, e⟩ | ⟨n, e⟩⟩ := s.runMicroStep_cases k row
  · exact .inl (spared hx hw)
  · exact .inr ⟨hn, by rw [e]; exact State.resetCutting_restarted _ _⟩
  · exact .inr ⟨hn, by rw [e]; exact State.resetCutting_restarted _ _⟩

/-- While the sequence is active and no response waits, a step without `rst` runs the row at `upc`. -/
theorem State.Inv.step_of_seqActive (s : State) (h : s.Inv) (hq : s.seqActive = true) (hf : s.fsm ≠ .resp)
    (hr : s.pins.rst = false) :
    ∃ row, microRow s.upc = some row ∧ step s = .next (s.clearDiag.runMicroStep s.upc row).tickPins := by
  have hk : s.upc.toNat ≤ 9 := by
    rcases h.seq_step hq with ⟨_, h, _⟩ | ⟨_, h⟩ | ⟨h, -⟩
    · exact h
    · rw [h]; decide
    · exact absurd h hf
  obtain ⟨row, hrow⟩ := Option.isSome_iff_exists.1 ((microRow_isSome s.upc).trans (by simpa using hk))
  refine ⟨row, hrow, step_microStep s row hrow ?_⟩
  rcases h.seq_step hq with ⟨h1, _, _⟩ | ⟨h1, _⟩ | ⟨h1, -⟩
  · have := h.xfer_seq h1
    simp [State.nextAction, hr, h1, this]
  · simp [State.nextAction, hr, h1]
  · exact absurd h1 hf

/-- No reset now or later: nor after a step. -/
theorem State.NoReset.tickPins {s : State} (h : s.NoReset) : s.tickPins.NoReset := by
  obtain ⟨a, b⟩ := h
  cases hp : s.pinScript <;> simp_all [State.NoReset]
/-- A host that takes now and later takes after a step. -/
theorem State.HostTakes.tickPins {s : State} (h : s.HostTakes) : s.tickPins.HostTakes := by
  obtain ⟨a, b⟩ := h
  cases hp : s.pinScript <;> simp_all [State.HostTakes]

end Sys2Proof.Machine
end

