-- ==== Sys2Proof/Laws/PerInstr.lean ====
section
/-! SUPPORT. Laws of every instruction, one lemma a constructor. `RowBits`: the word the encoder gives has the bits
spec/opcode_table.json fixes for the instruction's row. -/

namespace Sys2Proof.Laws.RowBits

open Sys2Proof

/-- The mask and match columns of a row of spec/opcode_table.json, by format. -/
inductive Row where
  | cmd (mask bits : Descriptor)
  | ustep (mask bits : Upc)
  deriving DecidableEq, Repr

/-- The row of an instruction, copied from spec/opcode_table.json. -/
def row : Instr → Row
  | .read _ _ _ => .cmd 0xFF0000000000#48 0x010000000000#48
  | .write _ _ _ => .cmd 0xFF0000000000#48 0x020000000000#48
  | .bringup => .cmd 0xFF0000000000#48 0x030000000000#48
  | .wrGar => .cmd 0xFFFFFFFFFFFF#48 0x020001040004#48
  | .wrSubr => .cmd 0xFFFFFFFFFFFF#48 0x020005040004#48
  | .wrShar => .cmd 0xFFFFFFFFFFFF#48 0x020009040006#48
  | .wrSipr => .cmd 0xFFFFFFFFFFFF#48 0x02000F040004#48
  | .rdMr => .cmd 0xFFFFFFFFFFFF#48 0x010000000001#48
  | .wrMr => .cmd 0xFFFFFFFFFFFF#48 0x020000040001#48
  | .rdVersionr => .cmd 0xFFFFFFFFFFFF#48 0x010039000001#48
  | .s1w => .ustep 0xF#4 0x0#4
  | .s1wait => .ustep 0xF#4 0x1#4
  | .s1r => .ustep 0xF#4 0x2#4
  | .s2w => .ustep 0xF#4 0x3#4
  | .s2r => .ustep 0xF#4 0x4#4
  | .s3w => .ustep 0xF#4 0x5#4
  | .s3r => .ustep 0xF#4 0x6#4
  | .s4w => .ustep 0xF#4 0x7#4
  | .s4r => .ustep 0xF#4 0x8#4
  | .s5r => .ustep 0xF#4 0x9#4
  | .present => .ustep 0xF#4 0xA#4
  | .absent => .ustep 0xF#4 0xB#4

/-- The word has the fixed bits of the row. -/
def Fits : Row → FetchWord → Prop
  | .cmd m b, .cmd d => d &&& m = b
  | .ustep m b, .ustep k => k &&& m = b
  | .cmd _ _, .ustep _ => False
  | .ustep _ _, .cmd _ => False

/-- The encoder's word of the instruction has the fixed bits of its row. -/
def Statement (i : Instr) : Prop := Fits (row i) (encode i)

/-- Masking a descriptor down to its operation code. -/
theorem make_mask (op : Byte) (addr : Half) (ctrl : Byte) (len : Half) :
    Descriptor.make op addr ctrl len &&& 0xFF0000000000#48 = op ++ 0x0000000000#40 := by
  have hm : 0xFF0000000000#48 = 0xFF#8 ++ 0x0000000000#40 := by decide
  have hd : Descriptor.make op addr ctrl len = op ++ (addr ++ ctrl ++ len) := by
    apply BitVec.eq_of_getLsbD_eq
    intro i hi
    simp only [Descriptor.make, BitVec.getLsbD_append]
    repeat' split
    all_goals first | rfl | omega
  rw [hm, hd, BitVec.and_append, BitVec.and_zero]
  congr 1
  exact BitVec.and_allOnes

theorem read (addr : Half) (ctrl : Byte) (len : Half) : Statement (.read addr ctrl len) := make_mask _ addr ctrl len
theorem write (addr : Half) (ctrl : Byte) (len : Half) : Statement (.write addr ctrl len) := make_mask _ addr ctrl len
theorem bringup : Statement .bringup := rfl
theorem wrGar : Statement .wrGar := rfl
theorem wrSubr : Statement .wrSubr := rfl
theorem wrShar : Statement .wrShar := rfl
theorem wrSipr : Statement .wrSipr := rfl
theorem rdMr : Statement .rdMr := rfl
theorem wrMr : Statement .wrMr := rfl
theorem rdVersionr : Statement .rdVersionr := rfl
theorem s1w : Statement .s1w := rfl
theorem s1wait : Statement .s1wait := rfl
theorem s1r : Statement .s1r := rfl
theorem s2w : Statement .s2w := rfl
theorem s2r : Statement .s2r := rfl
theorem s3w : Statement .s3w := rfl
theorem s3r : Statement .s3r := rfl
theorem s4w : Statement .s4w := rfl
theorem s4r : Statement .s4r := rfl
theorem s5r : Statement .s5r := rfl
theorem present : Statement .present := rfl
theorem absent : Statement .absent := rfl

end Sys2Proof.Laws.RowBits
end

