-- ==== Sys2Proof/Tests/Slice0.lean ====
section
/-! SUPPORT. Tests. Expected words, frames, responses and events come from the tables and vectors of the spec
(30_encoding.md R88, R93, R95; 95_test_vectors.md); the witnesses show that the hypotheses of the statements can be met. -/

namespace Sys2Proof.Tests

open Sys2Proof Sys2Proof.Machine

/-! ### Decoding: the words of 30_encoding.md R88, R93, R95 and 95_test_vectors.md section 2 -/

-- V5: READ 0x00FF, 0x00, 8
theorem test_decode_read : decode (.cmd 0x0100FF000008#48) = .ok (.read 0x00FF#16 0x00#8 8#16) := by decide
-- W9: WRITE 0x7FFF, 0x0C, 255 bytes
theorem test_decode_write : decode (.cmd 0x027FFF0C00FF#48) = .ok (.write 0x7FFF#16 0x0C#8 255#16) := by decide
-- X4: the other fields of a BRINGUP are ignored
theorem test_decode_bringup : decode (.cmd 0x03FFFFFFFFFF#48) = .ok .bringup := by decide
theorem test_decode_wrGar : decode (.cmd 0x020001040004#48) = .ok .wrGar := by decide
theorem test_decode_wrSubr : decode (.cmd 0x020005040004#48) = .ok .wrSubr := by decide
theorem test_decode_wrShar : decode (.cmd 0x020009040006#48) = .ok .wrShar := by decide
theorem test_decode_wrSipr : decode (.cmd 0x02000F040004#48) = .ok .wrSipr := by decide
theorem test_decode_rdMr : decode (.cmd 0x010000000001#48) = .ok .rdMr := by decide
theorem test_decode_wrMr : decode (.cmd 0x020000040001#48) = .ok .wrMr := by decide
theorem test_decode_rdVersionr : decode (.cmd 0x010039000001#48) = .ok .rdVersionr := by decide
theorem test_decode_s1w : decode (.ustep 0b0000#4) = .ok .s1w := by decide
theorem test_decode_s1wait : decode (.ustep 0b0001#4) = .ok .s1wait := by decide
theorem test_decode_s1r : decode (.ustep 0b0010#4) = .ok .s1r := by decide
theorem test_decode_s2w : decode (.ustep 0b0011#4) = .ok .s2w := by decide
theorem test_decode_s2r : decode (.ustep 0b0100#4) = .ok .s2r := by decide
theorem test_decode_s3w : decode (.ustep 0b0101#4) = .ok .s3w := by decide
theorem test_decode_s3r : decode (.ustep 0b0110#4) = .ok .s3r := by decide
theorem test_decode_s4w : decode (.ustep 0b0111#4) = .ok .s4w := by decide
theorem test_decode_s4r : decode (.ustep 0b1000#4) = .ok .s4r := by decide
theorem test_decode_s5r : decode (.ustep 0b1001#4) = .ok .s5r := by decide
theorem test_decode_present : decode (.ustep 0b1010#4) = .ok .present := by decide
theorem test_decode_absent : decode (.ustep 0b1011#4) = .ok .absent := by decide

-- a READ of another length at the same address is no named access (42_named_accesses.md)
theorem test_decode_read_of_version_and_more :
    decode (.cmd 0x010039000002#48) = .ok (.read 0x0039#16 0x00#8 2#16) := by decide
-- X1, X2, X3: reserved operation codes
theorem test_decode_reserved :
    decode (.cmd 0x000000000000#48) = .error (.reservedOp 0x00#8) ∧
    decode (.cmd 0x040000000000#48) = .error (.reservedOp 0x04#8) ∧
    decode (.cmd 0xFF0039000001#48) = .error (.reservedOp 0xFF#8) := by decide
-- 10_state.md R25: 12 to 15 are never taken
theorem test_decode_upc_never_taken :
    decode (.ustep 12#4) = .error (.upcNeverTaken 12#4) ∧ decode (.ustep 15#4) = .error (.upcNeverTaken 15#4) := by decide

-- V4 and W6, encoded
theorem test_encode_read : encode (.read 0xFFFF#16 0xFF#8 1#16) = .cmd 0x01FFFFFF0001#48 := by decide
theorem test_encode_write : encode (.write 0xABCD#16 0x5C#8 0#16) = .cmd 0x02ABCD5C0000#48 := by decide
theorem test_decodeTableWord :
    decodeTableWord 48 0x018001140002 = some (.read 0x8001#16 0x14#8 2#16) ∧ decodeTableWord 8 0x9 = some .s5r ∧
    decodeTableWord 48 0x000000000000 = none := by decide

/-! ### Well-formedness -/

/-- A build with MAXLEN = 255 and a diagnostic port. -/
def build : Params := ⟨0, 0, 0, 0, true⟩

theorem test_wellFormed_accepts :
    Instr.wellFormed build (.read 0xFF00#16 0x08#8 255#16) = true ∧ Instr.wellFormed build .rdMr = true := by decide
-- R90: a length above MAXLEN
theorem test_wellFormed_refuses_long_read : Instr.wellFormed build (.read 0x0000#16 0x00#8 256#16) = false := by decide
theorem test_wellFormed_refuses_long_write : Instr.wellFormed build (.write 0x0000#16 0x04#8 256#16) = false := by decide
-- R95: a named access spelled as the READ or WRITE it expands to
theorem test_wellFormed_refuses_spelled_read : Instr.wellFormed build (.read 0x0039#16 0x00#8 1#16) = false := by decide
theorem test_wellFormed_refuses_spelled_write : Instr.wellFormed build (.write 0x0001#16 0x04#8 4#16) = false := by decide

/-! ### Single steps, with a scripted channel (95_test_vectors.md) -/

/-- An idle block with these scripted answers and these data bytes on offer. -/
def block (answers : List Answer) (data : List Byte) : State :=
  { State.reset with cfg := build, answers := answers, wdataIn := data }

/-- The device drives these bytes and the exchange succeeds. -/
def rx (bytes : List Byte) : Answer := ⟨bytes, none, 0⟩

/-- The device drives bytes that nobody looks at. -/
def anyRx : Answer := rx (List.replicate 9 0xFF#8)

/-- `chan_fail` rises in byte slot `n`; nothing more is sent after it. -/
def failAt (n : Nat) : Answer := ⟨List.replicate 9 0x5A#8, some n, n⟩

/-- The engine state, the response and the bus history. -/
def seen (s : State) : Fsm × Response × List BusEvent := (s.fsm, s.response, s.bus)

/-- The bytes of a successful READ. -/
def bytesRead (s : State) : List Byte := s.rbuf.take s.respLen.toNat

-- V1
theorem test_rdVersionr : nextMap (fun t => (seen t, bytesRead t))
      (exec .rdVersionr (block [rx [0xFF#8, 0xFF#8, 0xFF#8, 0x04#8]] [])) =
    some ((.resp, ⟨.ok, false, 1#16⟩, [.exchange [0x00#8, 0x39#8, 0x00#8, 0x00#8] true]), [0x04#8]) := by decide +kernel
-- V9
theorem test_rdVersionr_fails : nextMap (fun t => (t.fsm, t.response, t.rbuf))
      (exec .rdVersionr (block [failAt 3] [])) = some (.resp, ⟨.busFailure, false, 0#16⟩, []) := by decide +kernel
-- V2
theorem test_rdMr : nextMap (fun t => (seen t, bytesRead t))
      (exec .rdMr (block [rx [0x01#8, 0x02#8, 0x03#8, 0x00#8]] [])) =
    some ((.resp, ⟨.ok, false, 1#16⟩, [.exchange [0x00#8, 0x00#8, 0x00#8, 0x00#8] true]), [0x00#8]) := by decide +kernel
-- V8: the header bytes received are ignored, zeros are sent whatever the control byte
theorem test_read : nextMap (fun t => (seen t, bytesRead t))
      (exec (.read 0x8001#16 0x14#8 2#16) (block [rx [0xFF#8, 0xFF#8, 0xFF#8, 0xFF#8, 0xFE#8]] [])) =
    some ((.resp, ⟨.ok, false, 2#16⟩, [.exchange [0x80#8, 0x01#8, 0x14#8, 0x00#8, 0x00#8] true]), [0xFF#8, 0xFE#8]) := by
  decide +kernel
-- X5: MAXLEN = 255, 256 bytes
theorem test_read_too_long : nextMap seen (exec (.read 0x0000#16 0x00#8 256#16) (block [] [])) =
    some (.resp, ⟨.illegalCmd, false, 0#16⟩, []) := by decide +kernel
-- W6
theorem test_write_nothing : nextMap seen (exec (.write 0xABCD#16 0x5C#8 0#16) (block [anyRx] [])) =
    some (.resp, ⟨.ok, false, 0#16⟩, [.exchange [0xAB#8, 0xCD#8, 0x5C#8] true]) := by decide +kernel
-- X6: no data byte is taken
theorem test_write_too_long : nextMap (fun t => (seen t, t.wdataIn))
      (exec (.write 0x0000#16 0x04#8 256#16) (block [] [0x55#8])) =
    some ((.resp, ⟨.illegalCmd, false, 0#16⟩, []), [0x55#8]) := by decide +kernel
-- W3, W4, W5, W1; a byte beyond the data stays with the host
theorem test_wrGar : nextMap (fun t => (seen t, t.wdataIn))
      (exec .wrGar (block [anyRx] [0xC0#8, 0xA8#8, 0x01#8, 0x01#8, 0x77#8])) =
    some ((.resp, ⟨.ok, false, 0#16⟩,
      [.exchange [0x00#8, 0x01#8, 0x04#8, 0xC0#8, 0xA8#8, 0x01#8, 0x01#8] true]), [0x77#8]) := by decide +kernel
theorem test_wrSubr : nextMap seen (exec .wrSubr (block [anyRx] [0xFF#8, 0xFF#8, 0xFF#8, 0x00#8])) =
    some (.resp, ⟨.ok, false, 0#16⟩,
      [.exchange [0x00#8, 0x05#8, 0x04#8, 0xFF#8, 0xFF#8, 0xFF#8, 0x00#8] true]) := by decide +kernel
theorem test_wrSipr : nextMap seen (exec .wrSipr (block [anyRx] [0xC0#8, 0xA8#8, 0x01#8, 0x64#8])) =
    some (.resp, ⟨.ok, false, 0#16⟩,
      [.exchange [0x00#8, 0x0F#8, 0x04#8, 0xC0#8, 0xA8#8, 0x01#8, 0x64#8] true]) := by decide +kernel
theorem test_wrMr : nextMap seen (exec .wrMr (block [rx [0xFF#8, 0xFF#8, 0xFF#8, 0xFF#8]] [0x80#8])) =
    some (.resp, ⟨.ok, false, 0#16⟩, [.exchange [0x00#8, 0x00#8, 0x04#8, 0x80#8] true]) := by decide +kernel
-- W2 with trace (section 2.4), and W10
theorem test_wrShar_traced : nextMap (fun t => (seen t, t.diagLog))
      (exec .wrShar { block [anyRx] [0xDE#8, 0xAD#8, 0xBE#8, 0xEF#8, 0x00#8, 0x01#8] with
        pins := ⟨false, none, true, true, true, true, true⟩ }) =
    some ((.resp, ⟨.ok, false, 0#16⟩,
        [.exchange [0x00#8, 0x09#8, 0x04#8, 0xDE#8, 0xAD#8, 0xBE#8, 0xEF#8, 0x00#8, 0x01#8] true]),
      [.xfer .w 0x0009#16 0x04#8 [0xDE#8, 0xAD#8, 0xBE#8, 0xEF#8, 0x00#8, 0x01#8] true]) := by decide +kernel
theorem test_wrShar_fails : nextMap (fun t => (t.fsm, t.response, t.diagLog))
      (exec .wrShar (block [failAt 0] [0xDE#8, 0xAD#8, 0xBE#8, 0xEF#8, 0x00#8, 0x01#8])) =
    some (.resp, ⟨.busFailure, false, 0#16⟩, []) := by decide +kernel
-- section 2.5: the bits on `mosi` of READ 0x0039, 0x00, 1, and a byte sampled first bit = bit 7
theorem test_bits_of_header : (header 0x0039#16 0x00#8).flatMap bitsOf =
    [false, false, false, false, false, false, false, false, false, false, true, true, true, false, false, true,
     false, false, false, false, false, false, false, false] := by decide
theorem test_bits_sampled : byteOf [false, false, false, false, false, true, false, false] = 0x04#8 := by decide

/-! ### Micro-steps: vectors B1 to B11 -/

/-- A BRINGUP is at micro-step `k`. -/
def atStep (k : Upc) (answers : List Answer) : State := (block answers []).placeMicroStep k

/-- `upc`, engine state, activity, present bit, bus and diagnostic history. -/
structure Mark where
  upc : Upc
  fsm : Fsm
  active : Bool
  present : Bool
  bus : List BusEvent
  diag : List DiagEvent
  deriving DecidableEq, Repr

/-- What the micro-step tests look at. -/
def mark (s : State) : Mark := ⟨s.upc, s.fsm, s.seqActive, s.respPresent, s.bus, s.diagLog⟩

theorem test_bringup_starts : nextMap (fun t => (mark t, t.busy, t.csN)) (exec .bringup (block [] [])) =
    some (⟨0#4, .xfer, true, false, [], []⟩, true, false) := by decide +kernel
-- B1 #1; B2
theorem test_s1w : nextMap mark (exec .s1w (atStep 0#4 [anyRx])) =
    some ⟨1#4, .wait, true, false, [.exchange [0x00#8, 0x00#8, 0x04#8, 0x80#8] true], []⟩ := by decide +kernel
theorem test_s1w_fails : nextMap mark (exec .s1w (atStep 0#4 [failAt 2])) =
    some ⟨11#4, .resp, true, false, [.exchange [0x00#8, 0x00#8] false], [.busfail 0#4]⟩ := by decide +kernel
-- B1 wait: 10 ms of a 1 Hz clock are one cycle
theorem test_s1wait : nextMap mark (exec .s1wait (atStep 1#4 [])) =
    some ⟨2#4, .xfer, true, false, [.wait 1], []⟩ := by decide +kernel
-- B4; B3
theorem test_s1r_wrong : nextMap mark (exec .s1r (atStep 2#4 [rx [0x00#8, 0x00#8, 0x00#8, 0x80#8]])) =
    some ⟨11#4, .resp, true, false, [.exchange [0x00#8, 0x00#8, 0x00#8, 0x00#8] true],
      [.mismatch 1 0x00#8 0x80#8 true]⟩ := by decide +kernel
theorem test_s1r_right : nextMap mark (exec .s1r (atStep 2#4 [rx [0xFF#8, 0xFF#8, 0xFF#8, 0x00#8]])) =
    some ⟨3#4, .xfer, true, false, [.exchange [0x00#8, 0x00#8, 0x00#8, 0x00#8] true], []⟩ := by decide +kernel
theorem test_s2w : nextMap mark (exec .s2w (atStep 3#4 [anyRx])) =
    some ⟨4#4, .xfer, true, false, [.exchange [0x00#8, 0x00#8, 0x04#8, 0x08#8] true], []⟩ := by decide +kernel
-- B5: lenient; B10: the failure beats the comparison
theorem test_s2r_wrong : nextMap mark (exec .s2r (atStep 4#4 [rx [0x00#8, 0x00#8, 0x00#8, 0x00#8]])) =
    some ⟨5#4, .xfer, true, false, [.exchange [0x00#8, 0x00#8, 0x00#8, 0x00#8] true],
      [.mismatch 2 0x08#8 0x00#8 false]⟩ := by decide +kernel
theorem test_s2r_fails : nextMap mark (exec .s2r (atStep 4#4 [⟨[0x08#8, 0x08#8, 0x08#8, 0x08#8], some 3, 9⟩])) =
    some ⟨11#4, .resp, true, false, [.exchange [0x00#8, 0x00#8, 0x00#8, 0x00#8] false], [.busfail 4#4]⟩ := by
  decide +kernel
theorem test_s3w : nextMap mark (exec .s3w (atStep 5#4 [anyRx])) =
    some ⟨6#4, .xfer, true, false, [.exchange [0x00#8, 0x00#8, 0x04#8, 0x10#8] true], []⟩ := by decide +kernel
-- B11, B6
theorem test_s3r_wrong : nextMap mark (exec .s3r (atStep 6#4 [rx [0x00#8, 0x00#8, 0x00#8, 0x00#8]])) =
    some ⟨7#4, .xfer, true, false, [.exchange [0x00#8, 0x00#8, 0x00#8, 0x00#8] true],
      [.mismatch 3 0x10#8 0x00#8 false]⟩ := by decide +kernel
theorem test_s4w : nextMap mark (exec .s4w (atStep 7#4 [anyRx])) =
    some ⟨8#4, .xfer, true, false, [.exchange [0x00#8, 0x00#8, 0x04#8, 0x00#8] true], []⟩ := by decide +kernel
theorem test_s4r_wrong : nextMap mark (exec .s4r (atStep 8#4 [rx [0x00#8, 0x00#8, 0x00#8, 0x10#8]])) =
    some ⟨9#4, .xfer, true, false, [.exchange [0x00#8, 0x00#8, 0x00#8, 0x00#8] true],
      [.mismatch 4 0x00#8 0x10#8 false]⟩ := by decide +kernel
-- B1 #9; B7
theorem test_s5r_right : nextMap mark (exec .s5r (atStep 9#4 [rx [0x00#8, 0x00#8, 0x00#8, 0x04#8]])) =
    some ⟨10#4, .resp, true, true, [.exchange [0x00#8, 0x39#8, 0x00#8, 0x00#8] true], []⟩ := by decide +kernel
theorem test_s5r_wrong : nextMap mark (exec .s5r (atStep 9#4 [rx [0x00#8, 0x00#8, 0x00#8, 0x05#8]])) =
    some ⟨11#4, .resp, true, false, [.exchange [0x00#8, 0x39#8, 0x00#8, 0x00#8] true],
      [.mismatch 5 0x04#8 0x05#8 true]⟩ := by decide +kernel
theorem test_present : nextMap mark (exec .present (atStep 10#4 [])) =
    some ⟨10#4, .resp, true, true, [], []⟩ := by decide +kernel
theorem test_absent : nextMap mark (exec .absent (atStep 11#4 [])) =
    some ⟨11#4, .resp, true, false, [], []⟩ := by decide +kernel

/-! ### The step -/

-- W1's descriptor with a data byte of zero, placed as a fetch word, is run by the next step
theorem test_step_runs_fetch_word : nextMap (fun t => (t.fsm, t.bus)) (step ((block [anyRx] []).withFetchWord 48 0x020000040001)) =
    some (.resp, [.exchange [0x00#8, 0x00#8, 0x04#8, 0x00#8] true]) := by decide +kernel
theorem test_step_runs_micro_step : nextMap (fun t => (t.upc, t.fsm)) (step ((block [anyRx] []).withFetchWord 8 0x5)) =
    some (6#4, .xfer) := by decide +kernel
-- X1 through a whole step
theorem test_step_refuses_reserved : nextMap seen (step ((block [] []).withFetchWord 48 0)) =
    some (.resp, ⟨.illegalCmd, false, 0#16⟩, []) := by decide +kernel

/-- A READ of two bytes in mid-frame: one byte has gone out. -/
def midFrame : State :=
  { (block [rx [0x01#8, 0x02#8, 0x03#8, 0x04#8, 0x05#8]] []) with
    fsm := .xfer, busy := true, opQ := 0x01#8, addrQ := 0x1234#16, ctrlQ := 0xAB#8, lenQ := 2#16, idx := 1#17,
    sent := [0x12#8], ch := ⟨true, false, false, 0x01#8, 0#3, 8⟩ }

-- R118: the frame is finished
theorem test_mid_frame_is_finished : nextMap (fun t => (seen t, t.rbuf)) (step midFrame) =
    some ((.resp, ⟨.ok, false, 2#16⟩, [.exchange [0x12#8, 0x34#8, 0xAB#8, 0x00#8, 0x00#8] true]), [0x04#8, 0x05#8]) := by
  decide +kernel
-- 70_reset_and_hazards.md R231
theorem test_reset_cuts_frame :
    nextMap (fun t => (t.fsm, t.csN, t.busy, t.bus)) (step { midFrame with pins := ⟨true, none, true, true, true, true, false⟩ }) =
    some (.idle, true, false, [.truncated [0x12#8] []]) := by decide +kernel

/-- The same block, but `rst` rises in the course of the next step, after `n` pulses or cycles. -/
def risesAt (n : Nat) (s : State) : State := { s with pins := { s.pins with rstDuring := some n } }

-- R231: 13 pulses of the frame 12 34 AB 00 00 are its first byte and the bits 00110 of 0x34
theorem test_reset_cuts_read : nextMap (fun t => (t.fsm, t.csN, t.busy, t.bus, t.ch.pulses))
      (exec (.read 0x1234#16 0xAB#8 2#16) (risesAt 13 (block [anyRx] []))) =
    some (.idle, true, false, [.truncated [0x12#8] [false, false, true, true, false]], 13) := by decide +kernel
-- R231: a frame of 5 bytes is over after 40 pulses, so that is no cut
theorem test_reset_after_read : nextMap seen (exec (.read 0x1234#16 0xAB#8 2#16) (risesAt 40 (block [anyRx] []))) =
    some (.resp, ⟨.ok, false, 2#16⟩, [.exchange [0x12#8, 0x34#8, 0xAB#8, 0x00#8, 0x00#8] true]) := by decide +kernel
theorem test_reset_cuts_write : nextMap (fun t => (t.fsm, t.bus))
      (exec .wrMr (risesAt 31 (block [anyRx] [0x81#8]))) =
    some (.idle, [.truncated [0x00#8, 0x00#8, 0x04#8] [true, false, false, false, false, false, false]]) := by decide +kernel
theorem test_reset_cuts_wait : nextMap mark (exec .s1wait (risesAt 0 (atStep 1#4 []))) =
    some ⟨0#4, .idle, false, false, [], []⟩ := by decide +kernel
-- R22: a micro-step does not write the write buffer
theorem test_s1w_leaves_wbuf : nextMap (fun t => t.wbuf) (exec .s1w { atStep 0#4 [anyRx] with wbuf := [0xC0#8] }) =
    some [0xC0#8] := by decide +kernel
-- R28: `seq_active` falls with the delivery of the response
theorem test_delivery_ends_sequence :
    nextMap (fun t => (t.fsm, t.seqActive, t.busy)) (step { atStep 11#4 [] with respValid := true }) =
    some (.idle, false, false) := by decide +kernel

/-! ### Witnesses: the hypotheses of the statements can be met -/

/-- An idle block to which this descriptor is presented. -/
def offered (d : Descriptor) : State := { block [] [] with cmdIn := [d] }

/-- A WRITE of four bytes that waits in LOAD with two of them, while the host offers this. -/
def loading (data : List Byte) : State :=
  { block [anyRx] data with
    fsm := .load, busy := true, opQ := 0x02#8, addrQ := 0x0001#16, ctrlQ := 0x04#8, lenQ := 4#16,
    wbuf := [0xC0#8, 0xA8#8] }

/-- A READ of two bytes has been answered and the host has not yet taken the response. -/
def answered : State :=
  { block [] [] with
    fsm := .resp, busy := true, respValid := true, respLen := 2#16, lenQ := 2#16, rbuf := [0x0A#8, 0x0B#8] }

/-- The next step goes on. -/
def goesOn (s : State) : Bool := (nextMap (fun _ => ()) (step s)).isSome

theorem witness_DecodeInvertsEncode :
    (Instr.read 0xFFFF#16 0xFF#8 0xFFFF#16).canonical = true ∧ (Instr.write 0x0000#16 0x04#8 0#16).canonical = true ∧
    Instr.absent.canonical = true := by decide

theorem witness_StepRunsDecodedCommand :
    (offered 0x0100FF000008#48).pins.rst = false ∧ (offered 0x0100FF000008#48).fsm = .idle ∧
    (offered 0x0100FF000008#48).pins.cmdValid = true ∧
    (offered 0x0100FF000008#48).cmdIn.head? = some 0x0100FF000008#48 ∧
    decode (.cmd 0x0100FF000008#48) = .ok (.read 0x00FF#16 0x00#8 8#16) := by decide

theorem witness_StepRunsMicroStep :
    (atStep 1#4 []).pins.rst = false ∧ (atStep 1#4 []).seqActive = true ∧ (atStep 1#4 []).fsm = .wait ∧
    decode (.ustep (atStep 1#4 []).upc) = .ok .s1wait ∧
    (atStep 9#4 []).pins.rst = false ∧ (atStep 9#4 []).seqActive = true ∧ (atStep 9#4 []).fsm = .xfer ∧ (atStep 9#4 []).idx = 0#17 ∧
    decode (.ustep (atStep 9#4 []).upc) = .ok .s5r ∧
    (atStep 11#4 []).pins.rst = false ∧ (atStep 11#4 []).seqActive = true ∧ (atStep 11#4 []).fsm = .resp ∧
    (atStep 11#4 []).respValid = false ∧
    decode (.ustep (atStep 11#4 []).upc) = .ok .absent := by decide

theorem witness_ReservedOpRefused :
    (offered 0x000000000000#48).pins.rst = false ∧ (offered 0x000000000000#48).fsm = .idle ∧
    (offered 0x000000000000#48).pins.cmdValid = true ∧ (offered 0x000000000000#48).cmdIn.head? = some 0x000000000000#48 ∧
    Descriptor.op 0x000000000000#48 ≠ 0x01#8 ∧ Descriptor.op 0x000000000000#48 ≠ 0x02#8 ∧
    Descriptor.op 0x000000000000#48 ≠ 0x03#8 ∧ (offered 0x000000000000#48).ch.cs = false ∧
    (offered 0x04FFFFFFFFFF#48).pins.rst = false ∧ (offered 0x04FFFFFFFFFF#48).fsm = .idle ∧
    (offered 0x04FFFFFFFFFF#48).pins.cmdValid = true ∧ (offered 0x04FFFFFFFFFF#48).cmdIn.head? = some 0x04FFFFFFFFFF#48 ∧
    Descriptor.op 0x04FFFFFFFFFF#48 ≠ 0x01#8 ∧ Descriptor.op 0x04FFFFFFFFFF#48 ≠ 0x02#8 ∧
    Descriptor.op 0x04FFFFFFFFFF#48 ≠ 0x03#8 ∧ (offered 0x04FFFFFFFFFF#48).ch.cs = false := by decide

theorem witness_OverlongLengthRefused :
    (block [] []).cfg.maxLen < (256#16).toNat ∧ (block [] []).cfg.maxLen < (65535#16).toNat ∧ (block [] []).ch.cs = false := by
  decide

theorem witness_RefusedCommandChangesNothingElse :
    ((offered 0xFF0039000001#48).pins.rst = false ∧ (offered 0xFF0039000001#48).fsm = .idle ∧
      (offered 0xFF0039000001#48).pins.cmdValid = true ∧ (offered 0xFF0039000001#48).cmdIn.head? = some 0xFF0039000001#48 ∧
      Descriptor.op 0xFF0039000001#48 ≠ 0x01#8 ∧ Descriptor.op 0xFF0039000001#48 ≠ 0x02#8 ∧
      Descriptor.op 0xFF0039000001#48 ≠ 0x03#8) ∧
    (block [] []).cfg.maxLen < (256#16).toNat := by decide

theorem witness_NoCommandAcceptedWhileBusy :
    answered.fsm ≠ .idle ∧ goesOn answered = true ∧ midFrame.fsm ≠ .idle ∧ goesOn midFrame = true := by decide +kernel

theorem witness_AtMostOneBusEventAStep : goesOn (offered 0x010000000001#48) = true := by decide +kernel

theorem witness_ReadCommand :
    (255#16).toNat ≤ (block [anyRx] []).cfg.maxLen ∧ (block [anyRx] []).failsAt 0 (3 + (255#16).toNat) = false ∧
    (255#16).toNat ≤ (block [failAt 257] []).cfg.maxLen ∧ (block [failAt 257] []).failsAt 0 (3 + (255#16).toNat) = true ∧
    (block [failAt 258] []).failsAt 0 (3 + (255#16).toNat) = false ∧
    (0#16).toNat ≤ (block [failAt 2] []).cfg.maxLen ∧ (block [failAt 2] []).failsAt 0 (3 + (0#16).toNat) = true ∧
    (block [anyRx] []).rstCuts (3 + (255#16).toNat) = false ∧ (block [failAt 257] []).rstCuts (3 + (255#16).toNat) = false ∧
    (block [failAt 258] []).rstCuts (3 + (255#16).toNat) = false ∧ (block [failAt 2] []).rstCuts (3 + (0#16).toNat) = false ∧
    (risesAt 2064 (block [anyRx] [])).rstCuts (3 + (255#16).toNat) = false := by decide

theorem witness_WriteCommand : ∀ a ∈ [(anyRx, false), (failAt 0, true), (failAt 4, true), (failAt 5, false)],
    (2#16).toNat ≤ (block [a.1] [0x0A#8, 0x0B#8, 0x0C#8]).cfg.maxLen ∧
    (block [a.1] [0x0A#8, 0x0B#8, 0x0C#8]).pins.wdataValid = true ∧
    (block [a.1] [0x0A#8, 0x0B#8, 0x0C#8]).wdataIn = [0x0A#8, 0x0B#8] ++ [0x0C#8] ∧
    [0x0A#8, 0x0B#8].length = (2#16).toNat ∧ (block [a.1] [0x0A#8, 0x0B#8, 0x0C#8]).rstCuts (3 + (2#16).toNat) = false ∧
    (block [a.1] [0x0A#8, 0x0B#8, 0x0C#8]).failsAt 0 (3 + (2#16).toNat) = a.2 := by decide

theorem witness_WriteWaitsForData :
    (2#16).toNat ≤ (block [] [0x0A#8]).cfg.maxLen ∧ (block [] [0x0A#8]).wdataOffered.length < (2#16).toNat := by decide

/-- The same block; the exchange fails after its first byte. -/
def loadingToFail : State := { loading [0x01#8, 0x64#8, 0x77#8] with answers := [failAt 1] }

theorem witness_LoadGoesOnWithMissingData : ∀ c ∈ [(loading [0x01#8, 0x64#8, 0x77#8], false), (loadingToFail, true)],
    c.1.pins.rst = false ∧ c.1.fsm = .load ∧ c.1.opQ = 0x02#8 ∧ c.1.seqActive = false ∧ c.1.pins.wdataValid = true ∧
    c.1.wdataIn = [0x01#8, 0x64#8] ++ [0x77#8] ∧
    c.1.wbuf.length + [0x01#8, 0x64#8].length = c.1.lenQ.toNat ∧
    c.1.rstCuts (3 + c.1.lenQ.toNat) = false ∧ c.1.failsAt 0 (3 + c.1.lenQ.toNat) = c.2 := by decide

theorem witness_LoadWaitsWhileDataShort : ∀ data ∈ [[], [0x01#8]],
    (loading data).pins.rst = false ∧ (loading data).fsm = .load ∧ (loading data).wdataOffered.length < (loading data).wdataMissing := by
  decide

theorem witness_ZeroLengthAccesses : (block [anyRx] []).failsAt 0 3 = false ∧ (block [anyRx] []).rstCuts 3 = false ∧
    (block [failAt 3] []).failsAt 0 3 = false ∧ (block [failAt 3] []).rstCuts 3 = false := by
  decide

theorem witness_ReadFrame : (∃ t, exec (.read 0x1234#16 0xAB#8 0#16) (block [] []) = .next t) ∧
    (block [] []).pins.traceEn = false ∧ (block [] []).seqActive = false ∧ (block [] []).rstCuts (3 + (0#16).toNat) = false ∧
    (block [] []).cfg.maxLen < (256#16).toNat := ⟨⟨_, rfl⟩, rfl, rfl, by decide, by decide⟩

theorem witness_WriteFrame : (∃ t, exec (.write 0xABCD#16 0x5C#8 1#16) (block [] [0x01#8]) = .next t) ∧
    (block [] [0x01#8]).pins.traceEn = false ∧ (block [] [0x01#8]).seqActive = false ∧
    (block [] [0x01#8]).rstCuts (3 + (1#16).toNat) = false ∧ (block [] [0x01#8]).cfg.maxLen < (256#16).toNat :=
  ⟨⟨_, rfl⟩, rfl, rfl, by decide, by decide⟩

theorem witness_NamedWrites :
    (block [anyRx] (List.replicate 7 0x5A#8)).pins.wdataValid = true ∧
    (∀ n ∈ [1, 4, 6], (block [anyRx] (List.replicate 7 0x5A#8)).wdataIn =
      List.replicate n 0x5A#8 ++ List.replicate (7 - n) 0x5A#8 ∧ (List.replicate n 0x5A#8).length = n ∧
      (block [anyRx] (List.replicate 7 0x5A#8)).failsAt 0 (3 + n) = false ∧
      (block [anyRx] (List.replicate 7 0x5A#8)).rstCuts (3 + n) = false ∧
      (block [failAt 3] (List.replicate 7 0x5A#8)).pins.wdataValid = true ∧
      (block [failAt 3] (List.replicate 7 0x5A#8)).rstCuts (3 + n) = false ∧
      (block [failAt 3] (List.replicate 7 0x5A#8)).failsAt 0 (3 + n) = true) := by decide

theorem witness_NamedReads : (block [anyRx] []).failsAt 0 4 = false ∧ (block [anyRx] []).rstCuts 4 = false ∧
    (block [failAt 3] []).failsAt 0 4 = true ∧ (block [failAt 3] []).rstCuts 4 = false := by decide

/-- A READ with no write data on offer, a WRITE with just enough, a LOAD that completes, a micro-step. -/
theorem witness_EightPulsesAByte :
    ((255#16).toNat ≤ (block [anyRx] []).cfg.maxLen ∧ (block [anyRx] []).failsAt 0 (3 + (255#16).toNat) = false ∧
      (block [anyRx] []).rstCuts (3 + (255#16).toNat) = false ∧ (block [anyRx] []).wdataOffered = []) ∧
    ((2#16).toNat ≤ (block [anyRx] [0x0A#8, 0x0B#8]).cfg.maxLen ∧
      (2#16).toNat ≤ (block [anyRx] [0x0A#8, 0x0B#8]).wdataOffered.length ∧
      (block [anyRx] [0x0A#8, 0x0B#8]).failsAt 0 (3 + (2#16).toNat) = false ∧
      (block [anyRx] [0x0A#8, 0x0B#8]).rstCuts (3 + (2#16).toNat) = false) ∧
    ((loading [0x01#8, 0x64#8]).pins.rst = false ∧ (loading [0x01#8, 0x64#8]).fsm = .load ∧
      (loading [0x01#8, 0x64#8]).wdataMissing ≤ (loading [0x01#8, 0x64#8]).wdataOffered.length ∧
      (loading [0x01#8, 0x64#8]).failsAt 0 (3 + (loading [0x01#8, 0x64#8]).lenQ.toNat) = false ∧
      (loading [0x01#8, 0x64#8]).rstCuts (3 + (loading [0x01#8, 0x64#8]).lenQ.toNat) = false) ∧
    ((atStep 0#4 [anyRx]).failsAt 0 4 = false ∧ (atStep 0#4 [anyRx]).rstCuts 4 = false) := by decide

/-- S1R in mid-frame: the header has gone out. -/
def midStep : State :=
  { atStep 2#4 [rx [0x00#8, 0x00#8, 0x00#8, 0x00#8]] with idx := 3#17, sent := [0x00#8, 0x00#8, 0x00#8] }

theorem witness_MidFrameStepRefinesToByteSlots :
    midFrame.pins.rst = false ∧ midFrame.pins.rstDuring = none ∧ midFrame.fsm = .xfer ∧ midFrame.idx.toNat < midFrame.frameLen ∧
    midFrame.seqActive = false ∧ midFrame.sampleFail.stopsEarly = false ∧
    midStep.pins.rst = false ∧ midStep.pins.rstDuring = none ∧ midStep.fsm = .xfer ∧ midStep.idx.toNat < midStep.frameLen ∧
    midStep.idx ≠ 0#17 ∧ (microRow midStep.upc).isSome = true ∧ midStep.sampleFail.stopsEarly = false := by decide

theorem witness_WriteMicroSteps : (atStep 0#4 [anyRx]).rstCuts 4 = false ∧ (atStep 0#4 [anyRx]).failsAt 0 4 = false ∧
    (atStep 0#4 [failAt 0]).rstCuts 4 = false ∧ (atStep 0#4 [failAt 0]).failsAt 0 4 = true := by decide

/-- The reset wait of this build is one `clk` cycle long. -/
theorem witness_ResetWait : (atStep 1#4 []).rstCutsWait = false ∧ (atStep 1#4 []).cfg.waitCycles = 1 ∧
    (risesAt 1 (atStep 1#4 [])).rstCutsWait = false := by decide +kernel

theorem witness_ResetReadback :
    (atStep 2#4 [rx [0#8, 0#8, 0#8, 0x00#8]]).failsAt 0 4 = false ∧ (atStep 2#4 [rx [0#8, 0#8, 0#8, 0x00#8]]).misoAt 0 3 = 0x00#8 ∧
    (atStep 2#4 [rx [0#8, 0#8, 0#8, 0x80#8]]).failsAt 0 4 = false ∧ (atStep 2#4 [rx [0#8, 0#8, 0#8, 0x80#8]]).misoAt 0 3 ≠ 0x00#8 ∧
    (atStep 2#4 [failAt 3]).failsAt 0 4 = true ∧ (atStep 2#4 [rx [0#8, 0#8, 0#8, 0x00#8]]).rstCuts 4 = false ∧
    (atStep 2#4 [rx [0#8, 0#8, 0#8, 0x80#8]]).rstCuts 4 = false ∧ (atStep 2#4 [failAt 3]).rstCuts 4 = false := by decide

theorem witness_ProbeReads :
    (atStep 4#4 [rx [0#8, 0#8, 0#8, 0x08#8]]).failsAt 0 4 = false ∧ (atStep 4#4 [rx [0#8, 0#8, 0#8, 0x08#8]]).misoAt 0 3 = 0x08#8 ∧
    (atStep 4#4 [rx [0#8, 0#8, 0#8, 0x00#8]]).failsAt 0 4 = false ∧ (atStep 4#4 [rx [0#8, 0#8, 0#8, 0x00#8]]).misoAt 0 3 ≠ 0x08#8 ∧
    (atStep 4#4 [failAt 3]).failsAt 0 4 = true ∧ (atStep 4#4 [rx [0#8, 0#8, 0#8, 0x08#8]]).rstCuts 4 = false ∧
    (atStep 4#4 [rx [0#8, 0#8, 0#8, 0x00#8]]).rstCuts 4 = false ∧ (atStep 4#4 [failAt 3]).rstCuts 4 = false := by decide

theorem witness_IdentityCheck :
    (atStep 9#4 [rx [0#8, 0#8, 0#8, 0x04#8]]).failsAt 0 4 = false ∧ (atStep 9#4 [rx [0#8, 0#8, 0#8, 0x04#8]]).misoAt 0 3 = 0x04#8 ∧
    (atStep 9#4 [rx [0#8, 0#8, 0#8, 0x05#8]]).failsAt 0 4 = false ∧ (atStep 9#4 [rx [0#8, 0#8, 0#8, 0x05#8]]).misoAt 0 3 ≠ 0x04#8 ∧
    (atStep 9#4 [failAt 3]).failsAt 0 4 = true ∧ (atStep 9#4 [rx [0#8, 0#8, 0#8, 0x04#8]]).rstCuts 4 = false ∧
    (atStep 9#4 [rx [0#8, 0#8, 0#8, 0x05#8]]).rstCuts 4 = false ∧ (atStep 9#4 [failAt 3]).rstCuts 4 = false := by decide

theorem witness_SequencerFrame : (∃ t, exec .s1w (atStep 0#4 []) = .next t) ∧ (atStep 0#4 []).rstCuts 4 = false ∧
    (atStep 0#4 []).rstCutsWait = false := ⟨⟨_, rfl⟩, rfl, rfl⟩

/-- The answers of a healthy device, vector B1. -/
def healthy : List Answer :=
  [anyRx, rx [0#8, 0#8, 0#8, 0x00#8], anyRx, rx [0#8, 0#8, 0#8, 0x08#8], anyRx, rx [0#8, 0#8, 0#8, 0x10#8], anyRx,
   rx [0#8, 0#8, 0#8, 0x00#8], rx [0#8, 0#8, 0#8, 0x04#8]]

-- B1 meets the premises and is `Present`; with the failure of B9 it is `Absent` after five exchanges
theorem witness_BringupResultFormula :
    (atStep 0#4 healthy).AtBringupStart ∧ (atStep 0#4 healthy).NoReset ∧ (atStep 0#4 healthy).bringupPresent = true ∧
    (atStep 0#4 (healthy.set 4 (failAt 1))).bringupPresent = false := by
  refine ⟨⟨rfl, rfl, rfl, rfl⟩, ⟨⟨rfl, rfl⟩, ?_⟩, by decide, by decide⟩
  intro p h
  cases h

theorem witness_BringupWireTrace :
    (atStep 0#4 (healthy.set 4 (failAt 1))).AtBringupStart ∧ (atStep 0#4 (healthy.set 4 (failAt 1))).NoReset ∧
    (atStep 0#4 (healthy.set 4 (failAt 1))).bringupCount = 5 ∧
    (atStep 0#4 (healthy.set 4 (failAt 1))).bringupFail 3 = false ∧
    (atStep 0#4 (healthy.set 4 (failAt 1))).bringupFail 4 = true := by
  refine ⟨⟨rfl, rfl, rfl, rfl⟩, ⟨⟨rfl, rfl⟩, ?_⟩, by decide, by decide, by decide⟩
  intro p h
  cases h

theorem inv_at_last : (atStep 9#4 healthy).Inv := by constructor <;> decide
theorem inv_at_wait : (atStep 1#4 healthy).Inv := by constructor <;> decide
theorem inv_loading : (loading [0x01#8, 0x64#8]).Inv := by constructor <;> decide
theorem inv_answered : answered.Inv := by constructor <;> decide

/-- The sequence has come to `Absent` and its response waits. -/
def absentHere : State := { atStep 11#4 [] with respValid := true }

theorem inv_absentHere : absentHere.Inv := by constructor <;> decide

/-- S5R is about to run, and `rst` will rise in its frame. -/
def lastCut : State := risesAt 9 (atStep 9#4 healthy)

theorem inv_lastCut : lastCut.Inv := by constructor <;> decide

theorem witness_UpcOnlyIncreases :
    ((atStep 9#4 healthy).Inv ∧ (atStep 9#4 healthy).seqActive = true ∧ (atStep 9#4 healthy).pins.rst = false ∧
      goesOn (atStep 9#4 healthy) = true) ∧
    ((atStep 1#4 healthy).Inv ∧ (atStep 1#4 healthy).seqActive = true ∧ (atStep 1#4 healthy).pins.rst = false ∧
      goesOn (atStep 1#4 healthy) = true) ∧
    (lastCut.Inv ∧ lastCut.seqActive = true ∧ lastCut.pins.rst = false ∧ lastCut.fsm ≠ .resp ∧ goesOn lastCut = true) ∧
    (absentHere.Inv ∧ absentHere.seqActive = true ∧ absentHere.pins.rst = false ∧ absentHere.fsm = .resp ∧
      goesOn absentHere = true) :=
  ⟨⟨inv_at_last, by decide +kernel⟩, ⟨inv_at_wait, by decide +kernel⟩, ⟨inv_lastCut, by decide +kernel⟩,
    ⟨inv_absentHere, by decide +kernel⟩⟩

theorem witness_BringupNeverReportsBusFailure :
    (atStep 9#4 healthy).Inv ∧ (atStep 9#4 healthy).seqActive = true ∧
    nextMap (fun t => t.respValid) (step (atStep 9#4 healthy)) = some true :=
  ⟨inv_at_last, by decide +kernel⟩

theorem witness_ResponseAndDataDelivered :
    (answered.fsm = .resp ∧ answered.respValid = true ∧ answered.rdIdx = 0 ∧ answered.NoReset ∧ answered.HostTakes ∧
      answered.respLen ≠ 0#16 ∧ answered.rbuf.length = answered.respLen.toNat) ∧
    (absentHere.fsm = .resp ∧ absentHere.respValid = true ∧ absentHere.rdIdx = 0 ∧ absentHere.NoReset ∧ absentHere.HostTakes ∧
      absentHere.respLen = 0#16) := by
  refine ⟨⟨rfl, rfl, rfl, ⟨⟨rfl, rfl⟩, ?_⟩, ⟨⟨rfl, rfl⟩, ?_⟩, by decide, rfl⟩,
    ⟨rfl, rfl, rfl, ⟨⟨rfl, rfl⟩, ?_⟩, ⟨⟨rfl, rfl⟩, ?_⟩, by decide⟩⟩ <;> (intro p h; cases h)

theorem witness_DeliveryEndsSequence :
    (absentHere.pins.rst = false ∧ absentHere.fsm = .resp ∧ absentHere.respValid = true ∧ absentHere.pins.respReady = true ∧
      absentHere.respLen = 0#16) ∧
    (answered.pins.rst = false ∧ answered.fsm = .resp ∧ answered.respValid = true ∧ answered.pins.respReady = true ∧
      answered.respLen ≠ 0#16) := by decide

/-- The host does not take the response. -/
def held : State := { answered with pins := ⟨false, none, true, true, false, true, false⟩ }

/-- The response of the READ has been taken and its byte number `n` is next; `ready` is the host's `rdata_ready`. -/
def dataHere (ready : Bool) (n : Nat) : State :=
  { answered with respValid := false, rdIdx := n, pins := ⟨false, none, true, true, true, ready, false⟩ }

theorem witness_ResponseHeldUntilTaken :
    (held.pins.rst = false ∧ held.fsm = .resp ∧ held.respValid = true ∧ held.pins.respReady = false) ∧
    ((dataHere false 0).pins.rst = false ∧ (dataHere false 0).fsm = .resp ∧ (dataHere false 0).respValid = false ∧
      (dataHere false 0).seqActive = false ∧ (dataHere false 0).pins.rdataReady = false) := by decide

/-- The last byte of the READ, and one that is not the last. -/
theorem witness_DataByteDelivered : ∀ c ∈ [(0, false), (1, true)],
    (dataHere true c.1).pins.rst = false ∧ (dataHere true c.1).fsm = .resp ∧ (dataHere true c.1).respValid = false ∧
    (dataHere true c.1).seqActive = false ∧ (dataHere true c.1).pins.rdataReady = true ∧
    ((dataHere true c.1).rbuf[(dataHere true c.1).rdIdx]?).isSome = true ∧
    ((dataHere true c.1).rdIdx + 1 < (dataHere true c.1).respLen.toNat ↔ c.2 = false) := by decide

theorem inv_cutLoad : (risesAt 9 (loading [0x01#8, 0x64#8])).Inv := by constructor <;> decide

theorem witness_OperandsHeldUntilDelivery :
    ((loading [0x01#8, 0x64#8]).Inv ∧ (loading [0x01#8, 0x64#8]).pins.rst = false ∧ (loading [0x01#8, 0x64#8]).fsm ≠ .idle ∧
      (loading [0x01#8, 0x64#8]).seqActive = false ∧ goesOn (loading [0x01#8, 0x64#8]) = true) ∧
    ((risesAt 9 (loading [0x01#8, 0x64#8])).Inv ∧ goesOn (risesAt 9 (loading [0x01#8, 0x64#8])) = true) ∧
    (absentHere.Inv ∧ absentHere.pins.rst = false ∧ absentHere.fsm = .resp ∧ goesOn absentHere = true) ∧
    (∀ c ∈ [(Instr.s1wait, 1#4), (Instr.s2w, 3#4), (Instr.s4r, 8#4)],
      nextMap (fun t => t.fsm) (exec c.1 (atStep c.2 [anyRx])) = some .xfer) :=
  ⟨⟨inv_loading, by decide +kernel⟩, ⟨inv_cutLoad, by decide +kernel⟩, ⟨inv_absentHere, by decide +kernel⟩,
    by decide +kernel⟩

theorem witness_EveryStepKeepsInvariant :
    (answered.Inv ∧ goesOn answered = true) ∧ ((atStep 9#4 healthy).Inv ∧ goesOn (atStep 9#4 healthy) = true) :=
  ⟨⟨inv_answered, by decide +kernel⟩, ⟨inv_at_last, by decide +kernel⟩⟩

theorem witness_NoStopUnderInvariant : (atStep 1#4 healthy).Inv ∧ answered.Inv := ⟨inv_at_wait, inv_answered⟩

/-- A value of `upc` that is never taken. -/
def lost : State := { block [] [] with fsm := .wait, seqActive := true, upc := 12#4 }

theorem witness_StopsOnlyAtUpcNeverTaken : step lost = .fault .upcNeverTaken := by rfl

theorem witness_EveryCommandEnds :
    ((loading [0x01#8, 0x64#8]).Inv ∧ (loading [0x01#8, 0x64#8]).NoReset ∧ (loading [0x01#8, 0x64#8]).HostTakes ∧
      (loading [0x01#8, 0x64#8]).fsm ≠ .idle ∧ (loading [0x01#8, 0x64#8]).pins.wdataValid = true ∧
      (loading [0x01#8, 0x64#8]).wdataMissing ≤ (loading [0x01#8, 0x64#8]).wdataIn.length) ∧
    ((atStep 1#4 healthy).Inv ∧ (atStep 1#4 healthy).NoReset ∧ (atStep 1#4 healthy).HostTakes ∧ (atStep 1#4 healthy).fsm ≠ .idle ∧
      (atStep 1#4 healthy).fsm ≠ .load) := by
  refine ⟨⟨inv_loading, ⟨⟨rfl, rfl⟩, ?_⟩, ⟨⟨rfl, rfl⟩, ?_⟩, by decide⟩, ⟨inv_at_wait, ⟨⟨rfl, rfl⟩, ?_⟩, ⟨⟨rfl, rfl⟩, ?_⟩, by decide⟩⟩ <;>
    (intro p h; cases h)

theorem witness_ResetAbandonsCommand :
    ({ midFrame with pins := ⟨true, none, true, true, true, true, false⟩ } : State).pins.rst = true ∧ midFrame.ch.cs = true ∧
    ({ answered with pins := ⟨true, none, true, true, true, true, false⟩ } : State).pins.rst = true ∧ answered.ch.cs = false := by
  decide

theorem witness_BlockRestsAfterReset :
    ((block [] []).pins.rst = false ∧ (block [] []).fsm = .idle ∧ (block [] []).cmdIn = []) ∧
    (({ offered 0x010000000001#48 with pins := ⟨false, none, false, true, true, true, false⟩ } : State).pins.rst = false ∧
      (offered 0x010000000001#48).fsm = .idle ∧
      ({ offered 0x010000000001#48 with pins := ⟨false, none, false, true, true, true, false⟩ } : State).pins.cmdValid = false) := by
  decide

-- before the first pulse, and before the last one of a frame of 5 bytes; and in a failing exchange before it stops
theorem witness_ResetCutsRead : (2#16).toNat ≤ (block [anyRx] []).cfg.maxLen ∧
    (∀ n ∈ [0, 39], (risesAt n (block [anyRx] [])).pins.rstDuring = some n ∧
      (risesAt n (block [anyRx] [])).rstCuts (3 + (2#16).toNat) = true) ∧
    (risesAt 15 (block [failAt 2] [])).rstCuts (3 + (2#16).toNat) = true ∧
    (risesAt 16 (block [failAt 2] [])).rstCuts (3 + (2#16).toNat) = false := by decide

theorem witness_ResetCutsWrite : ∀ n ∈ [0, 39],
    (2#16).toNat ≤ (risesAt n (block [anyRx] [0x0A#8, 0x0B#8, 0x0C#8])).cfg.maxLen ∧
    (risesAt n (block [anyRx] [0x0A#8, 0x0B#8, 0x0C#8])).pins.wdataValid = true ∧
    (risesAt n (block [anyRx] [0x0A#8, 0x0B#8, 0x0C#8])).wdataIn = [0x0A#8, 0x0B#8] ++ [0x0C#8] ∧
    [0x0A#8, 0x0B#8].length = (2#16).toNat ∧
    (risesAt n (block [anyRx] [0x0A#8, 0x0B#8, 0x0C#8])).pins.rstDuring = some n ∧
    (risesAt n (block [anyRx] [0x0A#8, 0x0B#8, 0x0C#8])).rstCuts (3 + (2#16).toNat) = true := by decide

theorem witness_ResetCutsLoad : ∀ n ∈ [0, 55],
    (risesAt n (loading [0x01#8, 0x64#8])).pins.rst = false ∧ (risesAt n (loading [0x01#8, 0x64#8])).fsm = .load ∧
    (risesAt n (loading [0x01#8, 0x64#8])).opQ = 0x02#8 ∧ (risesAt n (loading [0x01#8, 0x64#8])).seqActive = false ∧
    (risesAt n (loading [0x01#8, 0x64#8])).pins.wdataValid = true ∧
    (risesAt n (loading [0x01#8, 0x64#8])).wdataIn = [0x01#8, 0x64#8] ++ [] ∧
    (risesAt n (loading [0x01#8, 0x64#8])).wbuf.length + [0x01#8, 0x64#8].length = (4#16).toNat ∧
    (risesAt n (loading [0x01#8, 0x64#8])).lenQ = 4#16 ∧
    (risesAt n (loading [0x01#8, 0x64#8])).pins.rstDuring = some n ∧
    (risesAt n (loading [0x01#8, 0x64#8])).rstCuts (3 + (4#16).toNat) = true := by decide

theorem witness_ResetCutsMicroSteps : ∀ n ∈ [0, 31],
    (risesAt n (atStep 9#4 healthy)).pins.rstDuring = some n ∧ (risesAt n (atStep 9#4 healthy)).rstCuts 4 = true := by decide

theorem witness_ResetCutsWait :
    (risesAt 0 (atStep 1#4 [])).pins.rstDuring = some 0 ∧ 0 < (risesAt 0 (atStep 1#4 [])).cfg.waitCycles := by decide +kernel

theorem witness_OutcomeForgetsPast : midFrame.respValid = false ∧ (block [] []).respValid = false := by decide

end Sys2Proof.Tests
end

/-! # Encoding

Proofs of the statements about the descriptor and its refusal: BRINGUP descriptors, reserved operation codes, lengths
above MAXLEN, named accesses. -/

namespace Sys2Proof

/-! ### The decoder, beside READ and WRITE -/

/-- A descriptor with BRINGUP's operation code decodes to BRINGUP, whatever its other fields hold (30_encoding.md R91). -/
theorem decode_bringupWord (a : Half) (c : Byte) (l : Half) :
    decode (.cmd (Descriptor.make 0x03#8 a c l)) = .ok .bringup := by
  simp [decode, decodeCommand]

/-- A descriptor with a reserved operation code is rejected by that name (30_encoding.md R89). -/
theorem decode_reservedOp {d : Descriptor} (h1 : Descriptor.op d ≠ 0x01#8) (h2 : Descriptor.op d ≠ 0x02#8)
    (h3 : Descriptor.op d ≠ 0x03#8) : decode (.cmd d) = .error (.reservedOp (Descriptor.op d)) := by
  simp [decode, decodeCommand, h1, h2, h3]

end Sys2Proof

namespace Sys2Proof.Machine

open Sys2Proof

/-! ### The meaning of a name -/

/-- The name of an instruction means what the instruction means: a named access adds no behaviour (30_encoding.md R95). -/
theorem exec_named (i : Instr) (s : State) : exec i.named s = exec i s := by
  cases i with
  | read a c l =>
    rcases Instr.named_read_cases a c l with e | ⟨e, h⟩ | ⟨e, h⟩
    · rw [e]
    all_goals cases h; rfl
  | write a c l =>
    rcases Instr.named_write_cases a c l with e | ⟨e, h⟩ | ⟨e, h⟩ | ⟨e, h⟩ | ⟨e, h⟩ | ⟨e, h⟩
    · rw [e]
    all_goals cases h; rfl
  | _ => rfl

/-! ### The refusal of a command -/

/-- The input pins play no part in a response that waits. -/
@[simp] theorem State.tickPins_responds (s : State) (r : Response) : s.tickPins.Responds r ↔ s.Responds r := Iff.rfl

/-- A refused command is answered with `{ILLEGAL_CMD, 0, 0}` (30_encoding.md R89). -/
theorem State.refuseCommand_responds {s : State} (hcs : s.ch.cs = false) :
    s.refuseCommand.Responds ⟨.illegalCmd, false, 0#16⟩ := by
  simp [Responds, response, hcs]

/-- A READ with a length above MAXLEN is refused (30_encoding.md R90). -/
theorem exec_read_of_overlong {s : State} {l : Half} (h : s.cfg.maxLen < l.toNat) (a : Half) (c : Byte) :
    exec (.read a c l) s = .next s.refuseCommand := by
  simp [exec, execRead, State.transportRead, State.lenOk, h]

/-- A WRITE with a length above MAXLEN is refused (30_encoding.md R90). -/
theorem exec_write_of_overlong {s : State} {l : Half} (h : s.cfg.maxLen < l.toNat) (a : Half) (c : Byte) :
    exec (.write a c l) s = .next s.refuseCommand := by
  simp [exec, execWrite, State.transportWrite, State.lenOk, h]

/-- Without `rst`, an idle block takes the descriptor presented to it (20_memory.md R63). -/
theorem State.nextAction_of_presented {s : State} {d : Descriptor} (hr : s.pins.rst = false) (hf : s.fsm = .idle)
    (hv : s.pins.cmdValid = true) (hd : s.cmdIn.head? = some d) : s.nextAction = .command d := by
  simp [nextAction, presented, hr, hf, hv, hd]

/-- A step that takes a descriptor the decoder rejects refuses it. -/
theorem step_of_rejected {s : State} {d : Descriptor} {e : DecodeError} (ha : s.clearDiag.nextAction = .command d)
    (hd : decode (.cmd d) = .error e) : step s = .next s.clearDiag.popCommand.refuseCommand.tickPins := by
  simp only [step, ha, hd]

end Sys2Proof.Machine

namespace Sys2Proof.Proofs

open Sys2Proof Sys2Proof.Machine

/-! ### The statements -/

/-- Settles O4: the decoder looks at the operation code of a BRINGUP descriptor alone. -/
theorem bringupFieldsIgnored : Obligations.BringupFieldsIgnored :=
  ⟨rfl, decode_bringupWord⟩

/-- Settles O8: the descriptor is taken, the decoder rejects it, and the step is the refusal, whose frame is the model's
field lemmas. -/
theorem reservedOpRefused : Obligations.ReservedOpRefused := by
  intro s d hrst hidle hvalid hhead h1 h2 h3 hcs
  have hstep : step s = .next s.clearDiag.popCommand.refuseCommand.tickPins :=
    step_of_rejected (State.nextAction_of_presented hrst hidle hvalid hhead) (decode_reservedOp h1 h2 h3)
  refine ⟨_, hstep, ?_, ?_⟩
  · exact (State.tickPins_responds _ _).mpr (State.refuseCommand_responds hcs)
  · simp

/-- Settles O9: both operations come to the same refusal. -/
theorem overlongLengthRefused : Obligations.OverlongLengthRefused := by
  intro s addr ctrl len hlen hcs i hi
  have hexec : exec i s = .next s.refuseCommand := by
    rcases List.mem_pair.mp hi with rfl | rfl
    · exact exec_read_of_overlong hlen addr ctrl
    · exact exec_write_of_overlong hlen addr ctrl
  exact ⟨_, hexec, State.refuseCommand_responds hcs, by simp⟩

/-- Settles O23: the descriptors are the encoder's table, and each named access is the name of its READ or WRITE, so
that `exec_named` applies. -/
theorem namedAccessesExpand : Obligations.NamedAccessesExpand := by
  refine ⟨⟨rfl, rfl, rfl, rfl, rfl, rfl, rfl⟩, fun s => ⟨?_, ?_, ?_, ?_, ?_, ?_, ?_⟩⟩
  · exact exec_named (.write 0x0001#16 0x04#8 4#16) s
  · exact exec_named (.write 0x0005#16 0x04#8 4#16) s
  · exact exec_named (.write 0x0009#16 0x04#8 6#16) s
  · exact exec_named (.write 0x000F#16 0x04#8 4#16) s
  · exact exec_named (.write 0x0000#16 0x04#8 1#16) s
  · exact exec_named (.read 0x0000#16 0x00#8 1#16) s
  · exact exec_named (.read 0x0039#16 0x00#8 1#16) s

end Sys2Proof.Proofs

/-! # Transport

Proof of the statement about READs and WRITEs without data bytes: with no payload the operation code plays no part in the
exchange, so both are one case of `State.perform_zeroLength`. -/

namespace Sys2Proof.Machine

open Sys2Proof

/-! ### A command without data bytes -/

/-- Whatever the build, a length of zero is accepted (40_transport.md R117). -/
@[simp] theorem State.lenOk_zero (s : State) : s.lenOk 0#16 = true := by simp [lenOk]

/-- LOAD takes nothing when nothing is missing, whatever the host offers. -/
theorem State.collect_of_none_missing {s : State} (h : s.wdataMissing = 0) : s.collect = s := by
  simp [collect, h]

/-- The frame of a command without data bytes is its header, whatever its operation code (40_transport.md R117). -/
theorem State.txBytes_zeroLength {s : State} (hl : s.lenQ = 0#16) :
    s.txBytes 0 s.frameLen = header s.addrQ s.ctrlQ := by
  simp only [frameLen, hl]
  rfl

/-- The exchange of a command without data bytes, of either operation, succeeds with `{OK, 0, 0}` and no bytes after a
frame that is the header alone (40_transport.md R117). -/
theorem State.perform_zeroLength {s : State} (hl : s.lenQ = 0#16) (hfail : s.failsAt 0 3 = false)
    (hrst : s.rstCuts 3 = false) :
    (s.perform settleSingle).Responds ⟨.ok, false, 0#16⟩ ∧ (s.perform settleSingle).rbuf = [] ∧
      (s.perform settleSingle).bus = s.bus ++ [.exchange (header s.addrQ s.ctrlQ) true] := by
  have hlen : s.frameLen = 3 := by simp [frameLen, hl]
  have hsettle : s.perform settleSingle = s.exchange.settleSingle :=
    s.perform_spared settleSingle (by rwa [hlen])
  have hbus := (s.exchange_bus_cases _ (txBytes_zeroLength hl)).1 (by rwa [hlen])
  rw [hsettle, settleSingle_eq]
  refine ⟨?_, ?_, ?_⟩
  · simp [Responds, response, hlen, hfail, hl]
  · simp [exchange_rbuf, misoBytes, hl]
  · simpa using hbus

/-- A READ of no bytes performs its exchange at once. -/
theorem exec_read_zeroLength (addr : Half) (ctrl : Byte) (s : State) : exec (.read addr ctrl 0#16) s =
    .next ((s.accept.latch Device.OP_READ addr ctrl 0#16).perform State.settleSingle) := by
  simp [exec, execRead, State.transportRead]

/-- A WRITE of no bytes performs its exchange at once: LOAD has nothing to wait for. -/
theorem exec_write_zeroLength (addr : Half) (ctrl : Byte) (s : State) : exec (.write addr ctrl 0#16) s =
    .next ((s.accept.latch Device.OP_WRITE addr ctrl 0#16).enterLoad.perform State.settleSingle) := by
  have hcollect := State.collect_of_none_missing
    (s := (s.accept.latch Device.OP_WRITE addr ctrl 0#16).enterLoad) rfl
  simp [exec, execWrite, State.transportWrite, State.continueLoad, hcollect, State.loaded]

end Sys2Proof.Machine

namespace Sys2Proof.Proofs

open Sys2Proof Sys2Proof.Machine

/-! ### The statement -/

/-- Settles O18: READ and WRITE come to the exchange of the same header with an empty payload. -/
theorem zeroLengthAccesses : Obligations.ZeroLengthAccesses := by
  intro s addr ctrl hfail hrst
  obtain ⟨hresp, hrbuf, hbus⟩ :=
    State.perform_zeroLength (s := s.accept.latch Device.OP_READ addr ctrl 0#16) rfl hfail hrst
  obtain ⟨hresp', -, hbus'⟩ :=
    State.perform_zeroLength (s := (s.accept.latch Device.OP_WRITE addr ctrl 0#16).enterLoad) rfl hfail hrst
  exact ⟨_, _, exec_read_zeroLength addr ctrl s, exec_write_zeroLength addr ctrl s, hresp, hrbuf, hresp', hbus,
    hbus'.trans hbus.symm⟩

end Sys2Proof.Proofs

/-! # Encoding, both ways

Proofs of the statements that decode and encode agree. -/

namespace Sys2Proof

/-- An instruction in its canonical spelling is its own name. -/
theorem Instr.named_of_canonical {i : Instr} (h : i.canonical = true) : i.named = i := by
  simpa [canonical] using h

/-- Every instruction decodes from its own word, under its name (30_encoding.md R95; log 16). -/
theorem decode_encode (i : Instr) : decode (encode i) = .ok i.named := by
  cases i with
  | read a c l => exact decode_readWord a c l
  | write a c l => exact decode_writeWord a c l
  | _ => rfl

/-- The decoder rejects exactly the descriptors with a reserved operation code (30_encoding.md R88, R89). -/
theorem decode_cmd_error_iff (d : Descriptor) : (∃ e, decode (.cmd d) = .error e) ↔
    Descriptor.op d ≠ 0x01#8 ∧ Descriptor.op d ≠ 0x02#8 ∧ Descriptor.op d ≠ 0x03#8 := by
  constructor
  · rintro ⟨e, he⟩
    refine ⟨fun h => ?_, fun h => ?_, fun h => ?_⟩ <;> simp [decode, decodeCommand, h] at he
  · rintro ⟨h1, h2, h3⟩
    exact ⟨_, decode_reservedOp h1 h2 h3⟩

/-- The decoder rejects exactly the values of `upc` that are never taken (10_state.md R25). -/
theorem decode_ustep_error_iff (k : Upc) : (∃ e, decode (.ustep k) = .error e) ↔ 12 ≤ k.toNat := by
  have byValue : ∀ k : Upc, (match decode (.ustep k) with | .ok _ => false | .error _ => true) = decide (12 ≤ k.toNat) := by
    decide
  have hk := byValue k
  cases hd : decode (.ustep k) with
  | ok i => simp_all
  | error e => simp_all

end Sys2Proof

namespace Sys2Proof.Proofs

open Sys2Proof Sys2Proof.Machine

/-- Settles O2: an instruction decodes from its own word under its name, which in the canonical spelling is itself. -/
theorem decodeInvertsEncode : Obligations.DecodeInvertsEncode := by
  intro i hi
  rw [decode_encode, Instr.named_of_canonical hi]

/-- Settles O3: what is decoded is the instruction's name, which means the same. -/
theorem ownWordMeansTheSame : Obligations.OwnWordMeansTheSame :=
  fun i s => ⟨i.named, decode_encode i, exec_named i s⟩

/-- Settles O5: one equivalence for each format. -/
theorem rejectedWords : Obligations.RejectedWords :=
  ⟨decode_cmd_error_iff, decode_ustep_error_iff⟩

/-- Settles O1: each word is closed, so the decoder computes its answer. -/
theorem sampleWordsDecode : Obligations.SampleWordsDecode := by
  unfold Obligations.SampleWordsDecode
  decide

end Sys2Proof.Proofs

/-! # Steps

What a step can do, said once (`step_cases`), and the step of each engine state. -/

namespace Sys2Proof.Machine

open Sys2Proof

/-! ### The moves of a step -/

/-- The micro-step at `upc` is due: in WAIT, in XFER of an active sequence, or in RESP of one that has not answered yet
(10_state.md R25; log 20). -/
def State.MicroStepDue (s : State) : Prop :=
  s.fsm = .wait ∨ (s.fsm = .xfer ∧ s.seqActive = true) ∨
    (s.fsm = .resp ∧ s.seqActive = true ∧ s.respValid = false)

/-- What one step makes of a state whose diagnostic port is empty, before the input pins take their next levels. -/
inductive State.Move (s : State) : State → Prop
  | reset (hr : s.pins.rst = true) : Move s s.doReset
  | rest (hr : s.pins.rst = false) (hf : s.fsm = .idle) : Move s s
  | refuse (hr : s.pins.rst = false) (hf : s.fsm = .idle) : Move s s.popCommand.refuseCommand
  | read (hr : s.pins.rst = false) (hf : s.fsm = .idle) (addr : Half) (ctrl : Byte) (len : Half) :
      Move s (s.popCommand.transportRead addr ctrl len)
  | write (hr : s.pins.rst = false) (hf : s.fsm = .idle) (addr : Half) (ctrl : Byte) (len : Half) :
      Move s (s.popCommand.transportWrite addr ctrl len)
  | bringup (hr : s.pins.rst = false) (hf : s.fsm = .idle) : Move s s.popCommand.startBringup
  | load (hr : s.pins.rst = false) (hf : s.fsm = .load) : Move s s.continueLoad
  | microStep (hr : s.pins.rst = false) (hd : s.MicroStepDue) (row : MicroRow) (hrow : microRow s.upc = some row) :
      Move s (s.runMicroStep s.upc row)
  | present (hr : s.pins.rst = false) (hd : s.MicroStepDue) (hu : s.upc = 10#4) : Move s s.finishPresent
  | absent (hr : s.pins.rst = false) (hd : s.MicroStepDue) (hu : s.upc = 11#4) : Move s s.finishAbsent
  | resume (hr : s.pins.rst = false) (hf : s.fsm = .xfer)
      (hm : s.seqActive = false ∨ (s.idx ≠ 0#17 ∧ microRow s.upc ≠ none)) : Move s s.resume
  | deliver (hr : s.pins.rst = false) (hf : s.fsm = .resp) : Move s s.deliver

/-- Where the micro-step table has no row, `upc` is at a terminal state or at a value that is never taken. -/
theorem upc_of_no_microRow {k : Upc} (h : microRow k = none) : k = 10#4 ∨ k = 11#4 ∨ 12 ≤ k.toNat := by
  revert k
  decide

/-- The values of `upc` that are never taken decode to nothing. -/
theorem decode_ustep_neverTaken {k : Upc} (h : 12 ≤ k.toNat) : decode (.ustep k) = .error (.upcNeverTaken k) := by
  revert k
  decide

/-- What a step can do: one of the moves, or the stop at a value of `upc` that is never taken. -/
theorem step_cases (s : State) :
    (∃ u, s.clearDiag.Move u ∧ step s = .next u.tickPins) ∨
    (step s = .fault .upcNeverTaken ∧ s.MicroStepDue ∧ 12 ≤ s.upc.toNat) := by
  have hspec := s.clearDiag.nextAction_spec
  cases ha : s.clearDiag.nextAction with
  | reset =>
    simp only [ha] at hspec
    exact .inl ⟨_, .reset hspec, by simp only [step, ha]⟩
  | idle =>
    simp only [ha] at hspec
    obtain ⟨hr, hf, -⟩ := hspec
    exact .inl ⟨_, .rest hr hf, by simp only [step, ha]⟩
  | command d =>
    simp only [ha] at hspec
    obtain ⟨hr, hf, -⟩ := hspec
    left
    cases hd : decode (.cmd d) with
    | error e => exact ⟨_, .refuse hr hf, step_of_rejected ha hd⟩
    | ok i =>
      obtain ⟨a, c, l, he⟩ | ⟨a, c, l, he⟩ | he := exec_command_cases d i hd
      · exact ⟨_, .read hr hf a c l, by simp only [step, ha, hd, he, advancePins]⟩
      · exact ⟨_, .write hr hf a c l, by simp only [step, ha, hd, he, advancePins]⟩
      · exact ⟨_, .bringup hr hf, by simp only [step, ha, hd, he, advancePins]⟩
  | load =>
    simp only [ha] at hspec
    obtain ⟨hr, hf⟩ := hspec
    exact .inl ⟨_, .load hr hf, by simp only [step, ha]⟩
  | microStep =>
    simp only [ha] at hspec
    obtain ⟨hr, hw⟩ := hspec
    have hdue : s.clearDiag.MicroStepDue := hw.imp_right (Or.imp_left fun h => ⟨h.1, h.2.1⟩)
    cases hrow : microRow s.upc with
    | some row => exact .inl ⟨_, .microStep hr hdue row hrow, step_microStep s row hrow ha⟩
    | none =>
      obtain hu | hu | hu := upc_of_no_microRow hrow
      · exact .inl ⟨_, .present hr hdue hu, by simp only [step, ha, hu]; rfl⟩
      · exact .inl ⟨_, .absent hr hdue hu, by simp only [step, ha, hu]; rfl⟩
      · exact .inr ⟨by simp only [step, ha, decode_ustep_neverTaken hu], hdue, hu⟩
  | resume =>
    simp only [ha] at hspec
    obtain ⟨hr, hf, hm⟩ := hspec
    exact .inl ⟨_, .resume hr hf hm, by simp only [step, ha]⟩
  | deliver =>
    simp only [ha] at hspec
    obtain ⟨hr, hf, -⟩ := hspec
    exact .inl ⟨_, .deliver hr hf, by simp only [step, ha]⟩

/-- A step that goes on is a move, and then the pins take their next levels. -/
theorem move_of_step {s t : State} (h : step s = .next t) : ∃ u, s.clearDiag.Move u ∧ t = u.tickPins := by
  obtain ⟨u, hu, e⟩ | ⟨e, -⟩ := step_cases s
  · rw [e] at h
    cases h
    exact ⟨u, hu, rfl⟩
  · rw [e] at h
    cases h

/-! ### The invariant along the moves -/

/-- Under the invariant a micro-step that is due is one of the ten, of an active sequence. -/
theorem State.Inv.of_due {s : State} (h : s.Inv) (hd : s.MicroStepDue) :
    s.seqActive = true ∧ s.upc.toNat ≤ 9 ∧ s.fsm ≠ .resp := by
  have hq : s.seqActive = true := by
    obtain hw | ⟨-, hq⟩ | ⟨-, hq, -⟩ := hd
    · exact h.wait_seq hw
    · exact hq
    · exact hq
  obtain ⟨hf, hk, -⟩ | ⟨hf, hk⟩ | ⟨hf, -, hv, -⟩ := h.seq_step hq
  · exact ⟨hq, hk, by simp [hf]⟩
  · exact ⟨hq, by simp [hk], by simp [hf]⟩
  · obtain hw | ⟨hx, -⟩ | ⟨-, -, hv'⟩ := hd <;> simp_all

/-- Under the invariant no exchange rests in mid-frame. -/
theorem State.Inv.not_resume {s : State} (h : s.Inv) (hf : s.fsm = .xfer) :
    ¬ (s.seqActive = false ∨ (s.idx ≠ 0#17 ∧ microRow s.upc ≠ none)) := by
  obtain ⟨hq, hi⟩ := h.xfer_seq hf
  simp [hq, hi]

/-- Under the invariant LOAD goes on to a state with the invariant. -/
theorem State.Inv.load {s : State} (h : s.Inv) (hf : s.fsm = .load) : s.continueLoad.Inv := by
  obtain ⟨hop, hlen⟩ := h.load_waits hf
  have hcs : s.ch.cs = false := by
    by_contra hc; have := h.cs_iff.1 (by simpa using hc); simp [hf] at this
  have hq : s.seqActive = false := by
    by_contra hc; have := h.seq_step (by simpa using hc); simp [hf] at this
  have hv : s.respValid = false := by
    by_contra hc; have := h.valid_resp (by simpa using hc); simp [hf] at this
  exact State.Inv.continueLoad h.settled (h.busy_iff.2 (by simp [hf])) hf hcs hq (h.wait_zero (by simp [hf])) hop hv hlen.le
    h.error_empty

/-- Every move keeps the invariant. -/
theorem State.Inv.move {s t : State} (h : s.Inv) (hm : s.Move t) : t.Inv := by
  cases hm with
  | reset => exact State.resetCutting_inv _ _
  | rest => exact h
  | refuse hr hf => exact h.popCommand.refuseCommand hf
  | read hr hf a c l => exact h.popCommand.transportRead hf a c l
  | write hr hf a c l => exact h.popCommand.transportWrite hf a c l
  | bringup hr hf => exact h.popCommand.startBringup hf
  | load hr hf => exact h.load hf
  | microStep hr hd row hrow => exact h.runMicroStep (h.of_due hd).1 row hrow
  | present hr hd hu => have := (h.of_due hd).2.1; simp [hu] at this
  | absent hr hd hu => have := (h.of_due hd).2.1; simp [hu] at this
  | resume hr hf hm => exact absurd hm (h.not_resume hf)
  | deliver hr hf => exact h.deliver hf

end Sys2Proof.Machine

namespace Sys2Proof.Proofs

open Sys2Proof Sys2Proof.Machine

/-- Settles O45: a step is a move between the clearing of the diagnostic port and the next levels of the pins, and all three
keep the invariant. -/
theorem everyStepKeepsInvariant : Obligations.EveryStepKeepsInvariant := by
  intro s t h hst
  obtain ⟨u, hm, rfl⟩ := move_of_step hst
  exact (h.clearDiag.move hm).tickPins

/-- Settles O46: reset gives the invariant from every state, and the state after reset is what it leaves of itself. -/
theorem resetHasInvariant : Obligations.ResetHasInvariant :=
  State.resetCutting_inv [] State.reset

/-- Settles O47: the one stop of a step is at a value of `upc` the invariant excludes. -/
theorem noStopUnderInvariant : Obligations.NoStopUnderInvariant := by
  intro s h
  obtain ⟨u, -, e⟩ | ⟨-, hd, hu⟩ := step_cases s
  · exact ⟨_, e⟩
  · have := (h.of_due hd).2.1
    omega

/-- Settles O48: the cases of a step name its one stop. -/
theorem stopsOnlyAtUpcNeverTaken : Obligations.StopsOnlyAtUpcNeverTaken := by
  intro s
  obtain ⟨u, -, e⟩ | ⟨e, -, hu⟩ := step_cases s
  · simp [e]
  · simp [e, hu]

end Sys2Proof.Proofs

/-! # Frames

What a step, a READ and a WRITE, and a micro-step leave unchanged, and how far the bus history grows. -/

namespace Sys2Proof.Machine

open Sys2Proof

/-! ### The bus history grows by at most one event -/

/-- From `s` to `t` the build and the host's descriptors are as before, and at most one event has been added to the bus
history. -/
def State.OneEvent (s t : State) : Prop :=
  t.cfg = s.cfg ∧ t.cmdIn = s.cmdIn ∧ ∃ es, t.bus = s.bus ++ es ∧ es.length ≤ 1

/-- An operation that leaves these three alone adds no event. -/
theorem State.OneEvent.of_same {s t : State} (hc : t.cfg = s.cfg) (hd : t.cmdIn = s.cmdIn) (hb : t.bus = s.bus) :
    s.OneEvent t := ⟨hc, hd, [], by simp [hb], by simp⟩

/-- What comes after the event may add none. -/
theorem State.OneEvent.trans_same {s t u : State} (h : s.OneEvent t) (hc : u.cfg = t.cfg) (hd : u.cmdIn = t.cmdIn)
    (hb : u.bus = t.bus) : s.OneEvent u := by
  obtain ⟨h1, h2, h3⟩ := h
  exact ⟨hc.trans h1, hd.trans h2, by rwa [hb]⟩

/-- What comes before the event may add none. -/
theorem State.OneEvent.same_trans {s t u : State} (h : t.OneEvent u) (hc : t.cfg = s.cfg) (hd : t.cmdIn = s.cmdIn)
    (hb : t.bus = s.bus) : s.OneEvent u := by
  obtain ⟨h1, h2, h3⟩ := h
  exact ⟨h1.trans hc, h2.trans hd, by rwa [← hb]⟩

/-- A reset adds the frame it cuts short, if there is one (70_reset_and_hazards.md R231). -/
theorem State.resetCutting_oneEvent (bits : List Bool) (s : State) : s.OneEvent (s.resetCutting bits) := by
  refine ⟨rfl, rfl, if s.ch.cs then [.truncated s.sent bits] else [], ?_, ?_⟩
  · cases h : s.ch.cs <;> simp [resetCutting, h]
  · split <;> simp

/-- An exchange cut short is one event. -/
theorem State.cutExchange_oneEvent (n : Nat) (s : State) : s.OneEvent (s.cutExchange n) :=
  (resetCutting_oneEvent _ _).same_trans (by simp [afterPulses]) (by simp [afterPulses]) (by simp [afterPulses])

/-- An exchange that ends is one event. -/
theorem State.finishExchange_oneEvent (s : State) : s.OneEvent s.finishExchange :=
  ⟨by simp, by simp, [.exchange s.finishExchange.sent (!s.finishExchange.failSeen)], by simp [finishExchange], le_rfl⟩

/-- What settles an exchange leaves the build, the host's descriptors and the bus history alone. -/
def Settlement (f : State → State) : Prop := ∀ s, (f s).cfg = s.cfg ∧ (f s).cmdIn = s.cmdIn ∧ (f s).bus = s.bus

theorem settlement_settleSingle : Settlement State.settleSingle := fun s => by simp [State.settleSingle_eq]

theorem settlement_settleMicro (k : Upc) (row : MicroRow) : Settlement (State.settleMicro k row) := by
  intro s
  cases row with
  | wait => simp [State.settleMicro]
  | write a c d => unfold State.settleMicro; dsimp only; split <;> simp
  | read a c e st f => unfold State.settleMicro; dsimp only; split <;> simp

/-- What the rest of an exchange with its settlement can do, from wherever it stands: run to its end, or be cut short. -/
theorem State.runExchange_cases (s : State) (f : State → State) :
    s.runExchange f = f s.finishExchange ∨ ∃ n, s.runExchange f = s.cutExchange n := by
  unfold runExchange
  split
  · split
    · exact .inr ⟨_, rfl⟩
    · exact .inl rfl
  · exact .inl rfl

/-- The rest of an exchange is one event. -/
theorem State.runExchange_oneEvent (s : State) {f : State → State} (hf : Settlement f) : s.OneEvent (s.runExchange f) := by
  obtain e | ⟨n, e⟩ := s.runExchange_cases f
  · obtain ⟨hc, hd, hb⟩ := hf s.finishExchange
    rw [e]
    exact s.finishExchange_oneEvent.trans_same hc hd hb
  · rw [e]
    exact s.cutExchange_oneEvent n

/-- A whole exchange is one event. -/
theorem State.perform_oneEvent (s : State) {f : State → State} (hf : Settlement f) : s.OneEvent (s.perform f) :=
  (s.beginExchange.runExchange_oneEvent hf).same_trans rfl rfl rfl

theorem State.transportRead_oneEvent (s : State) (a : Half) (c : Byte) (l : Half) : s.OneEvent (s.transportRead a c l) := by
  unfold transportRead
  split
  · exact (perform_oneEvent _ settlement_settleSingle).same_trans rfl rfl rfl
  · exact .of_same rfl rfl rfl

theorem State.continueLoad_oneEvent (s : State) : s.OneEvent s.continueLoad := by
  unfold continueLoad
  split
  · exact (perform_oneEvent _ settlement_settleSingle).same_trans rfl rfl rfl
  · exact .of_same rfl rfl rfl

theorem State.transportWrite_oneEvent (s : State) (a : Half) (c : Byte) (l : Half) : s.OneEvent (s.transportWrite a c l) := by
  unfold transportWrite
  split
  · exact (continueLoad_oneEvent _).same_trans rfl rfl rfl
  · exact .of_same rfl rfl rfl

/-- The reset wait, cut short or not, is at most one event. -/
theorem State.passWait_oneEvent (s : State) {f : State → State} (hf : Settlement f) : s.OneEvent (s.passWait f) := by
  have hwait : s.OneEvent s.runWait := by rw [runWait_eq]; exact ⟨rfl, rfl, _, rfl, le_of_eq rfl⟩
  have hend : s.OneEvent (f s.runWait) := by
    obtain ⟨hc, hd, hb⟩ := hf s.runWait
    exact hwait.trans_same hc hd hb
  unfold passWait
  split
  · split
    · rw [waitTicks_eq]
      exact (resetCutting_oneEvent _ _).same_trans rfl rfl rfl
    · exact hend
  · exact hend

theorem State.runMicroStep_oneEvent (s : State) (k : Upc) (row : MicroRow) : s.OneEvent (s.runMicroStep k row) := by
  cases row with
  | wait => exact (passWait_oneEvent _ (settlement_settleMicro k _)).same_trans rfl rfl rfl
  | write a c d => exact (perform_oneEvent _ (settlement_settleMicro k _)).same_trans rfl rfl rfl
  | read a c e st f => exact (perform_oneEvent _ (settlement_settleMicro k _)).same_trans rfl rfl rfl

theorem State.resume_oneEvent (s : State) : s.OneEvent s.resume := by
  unfold resume
  split
  · exact s.runExchange_oneEvent (settlement_settleMicro _ _)
  · exact s.runExchange_oneEvent settlement_settleSingle

theorem State.takeByte_oneEvent (s : State) : s.OneEvent s.takeByte := by
  unfold takeByte
  split <;> [split; skip] <;> exact .of_same rfl rfl rfl

theorem State.deliver_oneEvent (s : State) : s.OneEvent s.deliver := by
  unfold deliver
  split <;> split
  · rw [takeResponse_eq]; exact .of_same rfl rfl rfl
  · exact .of_same rfl rfl rfl
  · exact s.takeByte_oneEvent
  · exact .of_same rfl rfl rfl

/-- Every move adds at most one event; one from IDLE may take the descriptor besides. -/
theorem State.Move.oneEvent {s t : State} (hm : s.Move t) :
    s.OneEvent t ∨ (s.fsm = .idle ∧ s.popCommand.OneEvent t) := by
  cases hm with
  | reset => exact .inl (s.resetCutting_oneEvent [])
  | rest => exact .inl (.of_same rfl rfl rfl)
  | refuse hr hf => exact .inr ⟨hf, .of_same rfl rfl rfl⟩
  | read hr hf a c l => exact .inr ⟨hf, transportRead_oneEvent _ a c l⟩
  | write hr hf a c l => exact .inr ⟨hf, transportWrite_oneEvent _ a c l⟩
  | bringup hr hf => exact .inr ⟨hf, .of_same (by simp [startBringup]) (by simp [startBringup]) (by simp [startBringup])⟩
  | load => exact .inl s.continueLoad_oneEvent
  | microStep hr hd row => exact .inl (s.runMicroStep_oneEvent _ row)
  | present => exact .inl (.of_same rfl rfl rfl)
  | absent => exact .inl (.of_same rfl rfl rfl)
  | resume => exact .inl s.resume_oneEvent
  | deliver => exact .inl s.deliver_oneEvent

/-! ### READ and WRITE as exec runs them -/

/-- A READ of an accepted length is its exchange with freshly latched operands. -/
theorem exec_read_accepted (s : State) (a : Half) (c : Byte) (l : Half) (h : l.toNat ≤ s.cfg.maxLen) :
    exec (.read a c l) s = .next ((s.accept.latch Device.OP_READ a c l).perform State.settleSingle) := by
  simp [exec, execRead, State.transportRead, State.lenOk, h]

/-- A WRITE of an accepted length enters LOAD with freshly latched operands and goes on from there. -/
theorem exec_write_accepted (s : State) (a : Half) (c : Byte) (l : Half) (h : l.toNat ≤ s.cfg.maxLen) :
    exec (.write a c l) s = .next (s.accept.latch Device.OP_WRITE a c l).enterLoad.continueLoad := by
  simp [exec, execWrite, State.transportWrite, State.lenOk, h]

/-- What a single command's exchange leaves alone, cut short or not. -/
theorem State.performSingle_frame (s : State) :
    s.SameOutside (s.perform settleSingle) ∧ (s.perform settleSingle).wdataIn = s.wdataIn ∧
      (s.seqActive = false → (s.perform settleSingle).seqActive = false) ∧
      (s.traceQ = false → (s.perform settleSingle).diagLog = s.diagLog) ∧
      (s.rstCuts s.frameLen = false →
        (s.perform settleSingle).wbuf = s.wbuf ∧ (s.perform settleSingle).upc = s.upc ∧
        (s.perform settleSingle).waitCnt = s.waitCnt ∧
        (s.traceQ = false → (s.perform settleSingle).diagPort = s.diagPort)) := by
  obtain ⟨-, e⟩ | ⟨n, -, hc, e⟩ := s.perform_cases settleSingle
  · rw [e, settleSingle_eq]
    refine ⟨by simp [SameOutside], by simp, by simp, fun h => by simp [h, xferIf], fun _ => ⟨by simp, by simp, by simp, ?_⟩⟩
    intro h
    simpa using s.exchange.emitXfer_diagPort (by simpa using h)
  · obtain ⟨ho, hw, hd, hq⟩ := s.beginExchange.cutExchange_frame n
    rw [e]
    exact ⟨ho, hw, fun _ => hq, fun _ => hd, fun h => by rw [h] at hc; cases hc⟩

/-- What a step of LOAD leaves alone, and how much it takes of the host's data. -/
theorem State.continueLoad_frame (s : State) :
    s.SameOutside s.continueLoad ∧ (s.seqActive = false → s.continueLoad.seqActive = false) ∧
      (∃ n, n ≤ s.wdataMissing ∧ s.continueLoad.wdataIn = s.wdataIn.drop n) ∧
      (s.traceQ = false → s.continueLoad.diagLog = s.diagLog) ∧
      (s.rstCuts s.frameLen = false →
        s.continueLoad.upc = s.upc ∧ s.continueLoad.waitCnt = s.waitCnt ∧
        (s.traceQ = false → s.continueLoad.diagPort = s.diagPort)) := by
  have htaken : min s.wdataOffered.length s.wdataMissing ≤ s.wdataMissing := Nat.min_le_right _ _
  unfold continueLoad
  split
  · obtain ⟨ho, hw, hq, hd, hx⟩ := s.collect.performSingle_frame
    exact ⟨ho, hq, ⟨_, htaken, hw⟩, hd, fun h => (hx h).2⟩
  · exact ⟨⟨rfl, rfl, rfl, rfl, rfl, rfl⟩, id, ⟨_, htaken, rfl⟩, fun _ => rfl, fun _ => ⟨rfl, rfl, fun _ => rfl⟩⟩

end Sys2Proof.Machine

namespace Sys2Proof.Proofs

open Sys2Proof Sys2Proof.Machine

/-- Settles O11: only a move from IDLE takes a descriptor. -/
theorem noCommandAcceptedWhileBusy : Obligations.NoCommandAcceptedWhileBusy := by
  intro s t hbusy hst
  obtain ⟨u, hm, rfl⟩ := move_of_step hst
  obtain ⟨-, hd, -⟩ | ⟨hidle, -⟩ := hm.oneEvent
  · exact hd
  · exact absurd hidle hbusy

/-- Settles O12: every move adds at most one event, and neither taking the descriptor nor the pins touch the history. -/
theorem atMostOneBusEventAStep : Obligations.AtMostOneBusEventAStep := by
  intro s t hst
  obtain ⟨u, hm, rfl⟩ := move_of_step hst
  obtain ⟨hc, -, hb⟩ | ⟨-, hc, -, hb⟩ := hm.oneEvent
  · exact ⟨hc, hb⟩
  · exact ⟨hc, hb⟩

/-- Settles O19: a READ is refused, or is the exchange of its operands. -/
theorem readFrame : Obligations.ReadFrame := by
  intro s t addr ctrl len h
  by_cases hlen : len.toNat ≤ s.cfg.maxLen
  · rw [exec_read_accepted s addr ctrl len hlen] at h
    cases h
    obtain ⟨ho, hw, hq, hd, hx⟩ := (s.accept.latch Device.OP_READ addr ctrl len).performSingle_frame
    exact ⟨ho, hw, fun _ => hq rfl, hd, fun hc => hx (hc.resolve_left (by omega))⟩
  · rw [exec_read_of_overlong (by omega) addr ctrl] at h
    cases h
    simp [State.SameOutside]

/-- Settles O20: a WRITE is refused, or is a step of LOAD with its operands. -/
theorem writeFrame : Obligations.WriteFrame := by
  intro s t addr ctrl len h
  by_cases hlen : len.toNat ≤ s.cfg.maxLen
  · rw [exec_write_accepted s addr ctrl len hlen] at h
    cases h
    obtain ⟨ho, hq, ⟨n, hn, hw⟩, hd, hx⟩ := (s.accept.latch Device.OP_WRITE addr ctrl len).enterLoad.continueLoad_frame
    exact ⟨ho, fun _ => hq rfl, ⟨n, hn, hw⟩, hd, fun hc => hx (hc.resolve_left (by omega))⟩
  · rw [exec_write_of_overlong (by omega) addr ctrl] at h
    cases h
    refine ⟨by simp [State.SameOutside], by simp, ⟨0, by simp⟩, by simp, by simp⟩

/-- Settles O35: every micro-step runs a row of the table; the terminal states write `upc` and the response registers. -/
theorem sequencerFrame : Obligations.SequencerFrame := by
  intro s t i hi h
  have row : ∀ k r, exec i s = .next (s.runMicroStep k r) → s.SameOutside t ∧ t.wdataIn = s.wdataIn ∧
      (s.rstCuts 4 = false → s.rstCutsWait = false → t.busy = s.busy ∧ t.traceQ = s.traceQ ∧ t.wbuf = s.wbuf) := by
    intro k r e
    rw [e] at h
    cases h
    obtain ⟨ho, hw⟩ := s.runMicroStep_frame k r
    exact ⟨ho, hw, fun hx hw => s.runMicroStep_frame_spared k r (fun _ => hx) (fun _ => hw)⟩
  simp only [List.mem_cons, List.not_mem_nil, or_false] at hi
  rcases hi with rfl | rfl | rfl | rfl | rfl | rfl | rfl | rfl | rfl | rfl | rfl | rfl
  iterate 10 exact row _ _ rfl
  all_goals
    cases h
    exact ⟨⟨rfl, rfl, rfl, rfl, rfl, rfl⟩, rfl, fun _ _ => ⟨rfl, rfl, rfl⟩⟩

end Sys2Proof.Proofs

/-! # READ and WRITE

The outcome of a single command: of its exchange once the data is there, of LOAD while it is not, and of the exchange `rst`
cuts short. -/

namespace Sys2Proof.Machine

open Sys2Proof

/-! ### The outcome of a single command's exchange -/

/-- What the exchange of a single command with its settlement does, whatever its outcome: one answer is used up, the operands,
the write buffer, `busy` and the host's data stay. -/
theorem State.exchange_settleSingle_frame (s : State) :
    s.exchange.settleSingle.busy = s.busy ∧ s.exchange.settleSingle.wdataIn = s.wdataIn ∧
      s.UsesOneAnswer s.exchange.settleSingle ∧ s.SameOperands s.exchange.settleSingle ∧
      s.exchange.settleSingle.wbuf = s.wbuf := by
  simp [settleSingle_eq, UsesOneAnswer, SameOperands, Latched]

/-- A single command answers OK after a successful exchange, a READ with its length (40_transport.md R110, R111). -/
theorem State.exchange_settleSingle_responds_ok (s : State) (h : s.failsAt 0 s.frameLen = false) :
    s.exchange.settleSingle.Responds ⟨.ok, false, if s.opQ = Device.OP_READ then s.lenQ else 0#16⟩ := by
  simp [settleSingle_eq, Responds, response, h]

/-- A single command answers BUS_FAILURE after a failed exchange (60_exceptions.md R206). -/
theorem State.exchange_settleSingle_responds_fail (s : State) (h : s.failsAt 0 s.frameLen = true) :
    s.exchange.settleSingle.Responds ⟨.busFailure, false, 0#16⟩ := by
  simp [settleSingle_eq, Responds, response, h]

/-- The settlement adds no bus event and stores no byte. -/
theorem State.settleSingle_bus_rbuf (s : State) : s.settleSingle.bus = s.bus ∧ s.settleSingle.rbuf = s.rbuf := by
  simp [settleSingle_eq]

/-- The settlement emits the `XFER` event, if the command is traced (40_transport.md R114). -/
theorem State.exchange_settleSingle_diagLog (s : State) :
    s.exchange.settleSingle.diagLog = s.diagAfter (xferIf s.traceQ s.exchange.xferEvent) := by
  simp [settleSingle_eq]

/-- The outcome of a READ's exchange (40_transport.md R110). -/
theorem State.read_outcome (s : State) (ho : s.opQ = Device.OP_READ) :
    (s.failsAt 0 s.frameLen = false →
      s.exchange.settleSingle.Responds ⟨.ok, false, s.lenQ⟩ ∧
      s.exchange.settleSingle.rbuf = s.misoBytes 0 3 s.lenQ.toNat ∧
      s.exchange.settleSingle.bus = s.bus ++ [.exchange (readFrame s.addrQ s.ctrlQ s.lenQ.toNat) true] ∧
      s.exchange.settleSingle.diagLog =
        s.diagAfter (xferIf s.traceQ (.xfer .r s.addrQ s.ctrlQ (s.misoBytes 0 3 s.lenQ.toNat) true))) ∧
    (s.failsAt 0 s.frameLen = true →
      s.exchange.settleSingle.Responds ⟨.busFailure, false, 0#16⟩ ∧ s.exchange.settleSingle.rbuf = [] ∧
      (∃ m, s.exchange.settleSingle.bus = s.bus ++ [.exchange ((readFrame s.addrQ s.ctrlQ s.lenQ.toNat).take m) false]) ∧
      s.exchange.settleSingle.diagLog = s.diagAfter (xferIf s.traceQ (.xfer .r s.addrQ s.ctrlQ [] false))) := by
  obtain ⟨hok, hfail⟩ := s.exchange_bus_read ho
  obtain ⟨hbus, hrbuf⟩ := s.exchange.settleSingle_bus_rbuf
  have hev := s.exchange.xferEvent_read (by simpa using ho)
  rw [hbus, hrbuf, exchange_settleSingle_diagLog, hev, exchange_rbuf]
  refine ⟨fun h => ⟨?_, by simp [h, ho], hok h, by simp [h, ho]⟩, fun h => ⟨?_, by simp [h], hfail h, by simp [h]⟩⟩
  · simpa [ho] using s.exchange_settleSingle_responds_ok h
  · exact s.exchange_settleSingle_responds_fail h

/-- The outcome of a WRITE's exchange, once its data is there (40_transport.md R111). -/
theorem State.write_outcome (s : State) (ho : s.opQ = Device.OP_WRITE) (hq : s.seqActive = false)
    (hl : s.wbuf.length = s.lenQ.toNat) :
    (s.failsAt 0 s.frameLen = false →
      s.exchange.settleSingle.Responds ⟨.ok, false, 0#16⟩ ∧
      s.exchange.settleSingle.bus = s.bus ++ [.exchange (writeFrame s.addrQ s.ctrlQ s.wbuf) true] ∧
      s.exchange.settleSingle.diagLog = s.diagAfter (xferIf s.traceQ (.xfer .w s.addrQ s.ctrlQ s.wbuf true))) ∧
    (s.failsAt 0 s.frameLen = true →
      s.exchange.settleSingle.Responds ⟨.busFailure, false, 0#16⟩ ∧
      (∃ m, s.exchange.settleSingle.bus = s.bus ++ [.exchange ((writeFrame s.addrQ s.ctrlQ s.wbuf).take m) false]) ∧
      s.exchange.settleSingle.diagLog = s.diagAfter (xferIf s.traceQ (.xfer .w s.addrQ s.ctrlQ s.wbuf false))) := by
  have hp := s.payload_host hq
  obtain ⟨hok, hfail⟩ := s.exchange_bus_write ho (by rwa [hp])
  obtain ⟨hbus, -⟩ := s.exchange.settleSingle_bus_rbuf
  have hev := s.exchange.xferEvent_write (by simpa using ho)
  rw [hp] at hok hfail
  rw [hbus, exchange_settleSingle_diagLog, hev, exchange_payload, hp]
  refine ⟨fun h => ⟨?_, hok h, by simp [h]⟩, fun h => ⟨?_, hfail h, by simp [h]⟩⟩
  · have hne : ¬ Device.OP_WRITE = Device.OP_READ := by decide
    simpa [ho, hne] using s.exchange_settleSingle_responds_ok h
  · exact s.exchange_settleSingle_responds_fail h

/-! ### LOAD -/

/-- LOAD performs the exchange when the host offers what is missing. -/
theorem State.continueLoad_loaded (s : State) (h : s.collect.loaded = true) :
    s.continueLoad = s.collect.perform settleSingle := by
  simp [continueLoad, h]

/-- LOAD waits while the host offers too little. -/
theorem State.continueLoad_short (s : State) (h : s.collect.loaded = false) : s.continueLoad = s.collect := by
  simp [continueLoad, h]

/-- The data is all there as soon as the host offers as much as is missing. -/
theorem State.collect_loaded (s : State) (h : s.wdataMissing ≤ s.wdataOffered.length) : s.collect.loaded = true := by
  have hm : s.wdataMissing = s.lenQ.toNat - s.wbuf.length := rfl
  simp only [loaded, collect_wbuf, collect_lenQ, List.length_append, List.length_take, decide_eq_true_eq]
  omega

/-- Without `rst`, a step of LOAD takes what the host offers and goes on. -/
theorem step_load {s : State} (hr : s.pins.rst = false) (hf : s.fsm = .load) :
    step s = .next s.clearDiag.continueLoad.tickPins := by
  have ha : s.clearDiag.nextAction = .load := by simp [State.nextAction, hr, hf]
  simp only [step, ha]

/-- The host's data, lined up for a WRITE, is what LOAD collects. -/
theorem State.collect_write (s : State) (a : Half) (c : Byte) (l : Half) (data rest : List Byte)
    (hv : s.pins.wdataValid = true) (hw : s.wdataIn = data ++ rest) (hl : data.length = l.toNat) :
    (s.accept.latch Device.OP_WRITE a c l).enterLoad.collect.wbuf = data ∧
    (s.accept.latch Device.OP_WRITE a c l).enterLoad.collect.wdataIn = rest ∧
    (s.accept.latch Device.OP_WRITE a c l).enterLoad.collect.loaded = true :=
  State.collect_all _ data rest hv hw (by simpa using hl)

/-- A WRITE whose data is on offer is the exchange of header and data. -/
theorem exec_write_offered (s : State) (a : Half) (c : Byte) (l : Half) (data rest : List Byte)
    (h : l.toNat ≤ s.cfg.maxLen) (hv : s.pins.wdataValid = true) (hw : s.wdataIn = data ++ rest)
    (hl : data.length = l.toNat) : exec (.write a c l) s =
      .next ((s.accept.latch Device.OP_WRITE a c l).enterLoad.collect.perform State.settleSingle) := by
  rw [exec_write_accepted s a c l h, State.continueLoad_loaded _ (s.collect_write a c l data rest hv hw hl).2.2]

/-- The frame of a WRITE whose data has been collected. -/
theorem State.txBytes_collected (s : State) (frame : List Byte) (ho : s.opQ = Device.OP_WRITE) (hq : s.seqActive = false)
    (hl : s.wbuf.length = s.lenQ.toNat) (hf : writeFrame s.addrQ s.ctrlQ s.wbuf = frame) :
    s.txBytes 0 s.frameLen = frame := by
  have hp := s.payload_host hq
  rw [s.txBytes_write ho (by rwa [hp]), hp, hf]

/-! ### Pulses -/

/-- The pulses of a single command whose exchange succeeds (30_encoding.md R86). -/
theorem State.performSingle_pulses (s : State) (hf : s.failsAt 0 s.frameLen = false) (hr : s.rstCuts s.frameLen = false) :
    (s.perform settleSingle).ch.pulses = s.ch.pulses + 8 * s.frameLen ∧ (s.perform settleSingle).ch.sclk = false ∧
      (s.perform settleSingle).idx.toNat = s.frameLen := by
  obtain ⟨h1, h2, h3⟩ := s.exchange_pulses_ok hf
  rw [s.perform_spared settleSingle hr, settleSingle_eq]
  exact ⟨by simpa using h1, by simpa using h2, by simpa using h3⟩

/-- Comparing the byte makes no pulse. -/
theorem State.compareByte_wire (s : State) (k : Upc) (e : Byte) (st : Nat) (fatal : Bool) :
    (s.compareByte k e st fatal).ch.pulses = s.ch.pulses ∧ (s.compareByte k e st fatal).ch.sclk = s.ch.sclk := by
  unfold compareByte
  split
  · exact s.advance_wire k
  · split
    · simp
    · simpa using (s.emit (.mismatch st e s.readByte fatal)).advance_wire k

/-- The pulses of a write micro-step's exchange, where it succeeds. -/
theorem State.microWriteExchange_pulses (s : State) (k : Upc) (a : Half) (c : Byte) (hf : s.failsAt 0 4 = false) :
    (s.microWriteExchange k a c).ch.pulses = s.ch.pulses + 32 ∧ (s.microWriteExchange k a c).ch.sclk = false := by
  obtain ⟨h1, h2, -⟩ := ((s.atMicroStep k).latch Device.OP_WRITE a c 1#16).exchange_pulses_ok hf
  exact ⟨h1, h2⟩

/-- The pulses of a read micro-step's exchange, where it succeeds. -/
theorem State.microReadExchange_pulses (s : State) (k : Upc) (a : Half) (c : Byte) (hf : s.failsAt 0 4 = false) :
    (s.microReadExchange k a c).ch.pulses = s.ch.pulses + 32 ∧ (s.microReadExchange k a c).ch.sclk = false := by
  obtain ⟨h1, h2, -⟩ := ((s.atMicroStep k).latch Device.OP_READ a c 1#16).exchange_pulses_ok hf
  exact ⟨h1, h2⟩

/-- The pulses of a micro-step whose exchange succeeds. -/
theorem State.runMicroStep_pulses (s : State) (k : Upc) (row : MicroRow) (hw : row ≠ .wait) (hf : s.failsAt 0 4 = false)
    (hr : s.rstCuts 4 = false) :
    (s.runMicroStep k row).ch.pulses = s.ch.pulses + 32 ∧ (s.runMicroStep k row).ch.sclk = false := by
  cases row with
  | wait => exact absurd rfl hw
  | write a c d =>
    obtain ⟨h1, h2⟩ := s.microWriteExchange_pulses k a c hf
    obtain ⟨g1, g2⟩ := (s.microWriteExchange k a c).emitXfer.advance_wire k
    rw [s.runMicroStep_write k a c d hr, hf]
    exact ⟨g1.trans (by simpa using h1), g2.trans (by simpa using h2)⟩
  | read a c e st fatal =>
    obtain ⟨h1, h2⟩ := s.microReadExchange_pulses k a c hf
    obtain ⟨g1, g2⟩ := (s.microReadExchange k a c).emitXfer.compareByte_wire k e st fatal
    rw [s.runMicroStep_read k a c e st fatal hr, hf]
    exact ⟨g1.trans (by simpa using h1), g2.trans (by simpa using h2)⟩

end Sys2Proof.Machine

namespace Sys2Proof.Proofs

open Sys2Proof Sys2Proof.Machine

/-! ### READ -/

/-- Settles O13: an accepted READ `rst` spares is its exchange, settled. -/
theorem readCommand : Obligations.ReadCommand := by
  intro s addr ctrl len hlen hrst
  obtain ⟨hb, -, ha, ⟨hl, ht⟩, -⟩ := (s.accept.latch Device.OP_READ addr ctrl len).exchange_settleSingle_frame
  refine ⟨(s.accept.latch Device.OP_READ addr ctrl len).exchange.settleSingle, ?_, hb, ha, hl, ht,
    (s.accept.latch Device.OP_READ addr ctrl len).read_outcome rfl⟩
  rw [exec_read_accepted s addr ctrl len hlen, State.perform_spared _ _ hrst]

/-- Settles O22: the two named reads are READs of one byte. -/
theorem namedReads : Obligations.NamedReads := by
  intro s hrst c hc
  have hmax := Params.maxLen_ge s.cfg
  have hname : ∃ addr ctrl, exec c.1 s = exec (.read addr ctrl 1#16) s ∧ c.2 = Machine.readFrame addr ctrl 1 := by
    rcases List.mem_pair.mp hc with rfl | rfl
    · exact ⟨0x0000#16, 0x00#8, rfl, rfl⟩
    · exact ⟨0x0039#16, 0x00#8, rfl, rfl⟩
  obtain ⟨addr, ctrl, hexec, hframe⟩ := hname
  obtain ⟨t, he, hb, ha, -, -, hok, hfail⟩ := readCommand s addr ctrl 1#16 (show 1 ≤ _ by omega) hrst
  rw [hexec, hframe]
  refine ⟨t, he, hb, ha, fun h => ?_, fun h => ?_⟩
  · obtain ⟨hresp, hbytes, hbus, -⟩ := hok h
    exact ⟨hresp, hbytes, hbus⟩
  · obtain ⟨hresp, hbytes, hbus, -⟩ := hfail h
    exact ⟨hresp, hbytes, hbus⟩

/-- Settles O54: the frame of the cut exchange is the zero-filled one. -/
theorem resetCutsRead : Obligations.ResetCutsRead := by
  intro s addr ctrl len n hlen hn hrst
  exact ⟨_, exec_read_accepted s addr ctrl len hlen,
    (s.accept.latch Device.OP_READ addr ctrl len).perform_cut _ n _ (State.txBytes_read _ rfl) hn hrst⟩

/-! ### WRITE -/

/-- Settles O14: an accepted WRITE `rst` spares, with its data on offer, is its exchange, settled. -/
theorem writeCommand : Obligations.WriteCommand := by
  intro s addr ctrl len data rest hlen hv hw hl hrst
  obtain ⟨hbuf, hin, -⟩ := s.collect_write addr ctrl len data rest hv hw hl
  have hexec := exec_write_offered s addr ctrl len data rest hlen hv hw hl
  obtain ⟨hb, hd, ha, ⟨hlat, ht⟩, hwb⟩ :=
    (s.accept.latch Device.OP_WRITE addr ctrl len).enterLoad.collect.exchange_settleSingle_frame
  have hout := (s.accept.latch Device.OP_WRITE addr ctrl len).enterLoad.collect.write_outcome rfl rfl (by rw [hbuf]; exact hl)
  rw [hbuf] at hwb hout
  rw [State.perform_spared _ _ hrst] at hexec
  exact ⟨_, hexec, hb, hd.trans hin, ha, hlat, ht, hwb, hout⟩

/-- Settles O21: the five named writes are WRITEs of their lengths. -/
theorem namedWrites : Obligations.NamedWrites := by
  intro s hv c hc data rest hw hl hrst
  have hmax := Params.maxLen_ge s.cfg
  have hname : ∃ addr ctrl len, exec c.1 s = exec (.write addr ctrl len) s ∧ c.2.1 = header addr ctrl ∧
      c.2.2 = len.toNat ∧ len.toNat ≤ 255 := by
    simp only [List.mem_cons, List.not_mem_nil, or_false] at hc
    rcases hc with rfl | rfl | rfl | rfl | rfl
    · exact ⟨0x0001#16, 0x04#8, 4#16, rfl, rfl, rfl, by decide⟩
    · exact ⟨0x0005#16, 0x04#8, 4#16, rfl, rfl, rfl, by decide⟩
    · exact ⟨0x0009#16, 0x04#8, 6#16, rfl, rfl, rfl, by decide⟩
    · exact ⟨0x000F#16, 0x04#8, 4#16, rfl, rfl, rfl, by decide⟩
    · exact ⟨0x0000#16, 0x04#8, 1#16, rfl, rfl, rfl, by decide⟩
  obtain ⟨addr, ctrl, len, hexec, hhead, hlen, hle⟩ := hname
  rw [hlen] at hl hrst ⊢
  rw [hexec, hhead]
  obtain ⟨t, he, hb, hd, ha, -, -, -, hok, hfail⟩ := writeCommand s addr ctrl len data rest (by omega) hv hw hl hrst
  refine ⟨t, he, hb, hd, ha, fun h => ?_, fun h => ?_⟩
  · obtain ⟨hresp, hbus, -⟩ := hok h
    exact ⟨hresp, hbus⟩
  · obtain ⟨hresp, hbus, -⟩ := hfail h
    exact ⟨hresp, hbus⟩

/-- Settles O55: the frame of the cut exchange is header and data. -/
theorem resetCutsWrite : Obligations.ResetCutsWrite := by
  intro s addr ctrl len data rest n hlen hv hw hl hn hrst
  obtain ⟨hbuf, hin, -⟩ := s.collect_write addr ctrl len data rest hv hw hl
  have hframe := (s.accept.latch Device.OP_WRITE addr ctrl len).enterLoad.collect.txBytes_collected
    (Machine.writeFrame addr ctrl data) rfl rfl (by rw [hbuf]; exact hl) (by rw [hbuf]; rfl)
  obtain ⟨hcut, hd⟩ := State.perform_cut _ State.settleSingle n _ hframe hn hrst
  exact ⟨_, exec_write_offered s addr ctrl len data rest hlen hv hw hl, hcut, hd.trans hin⟩

/-- Settles O15: LOAD takes what is on offer and waits for the rest. -/
theorem writeWaitsForData : Obligations.WriteWaitsForData := by
  intro s addr ctrl len hlen hshort
  obtain ⟨hbuf, hin, hload⟩ := (s.accept.latch Device.OP_WRITE addr ctrl len).enterLoad.collect_some hshort
  have hexec := exec_write_accepted s addr ctrl len hlen
  rw [State.continueLoad_short _ hload] at hexec
  exact ⟨_, hexec, rfl, rfl, hbuf, hin, rfl, rfl, rfl, rfl, rfl, rfl, rfl, rfl, rfl⟩

/-! ### LOAD -/

/-- Settles O16: a step of LOAD with the missing data on offer is the exchange, settled, between the clearing of the
diagnostic port and the next levels of the pins. -/
theorem loadGoesOnWithMissingData : Obligations.LoadGoesOnWithMissingData := by
  intro s more rest hr hf hop hq hv hw hl hrst
  obtain ⟨hbuf, hin, hload⟩ := s.clearDiag.collect_all more rest hv hw hl
  obtain ⟨-, hd, ha, hlat, hwb⟩ := s.clearDiag.collect.exchange_settleSingle_frame
  have hout := s.clearDiag.collect.write_outcome hop hq (by rw [hbuf]; simpa using hl)
  rw [hbuf] at hwb hout
  have hstep := step_load hr hf
  rw [State.continueLoad_loaded _ hload, s.clearDiag.collect.perform_spared _ hrst] at hstep
  exact ⟨_, hstep, hd.trans hin, ha, hlat, hwb, hout⟩

/-- Settles O17: a step of LOAD takes what is on offer and waits for the rest. -/
theorem loadWaitsWhileDataShort : Obligations.LoadWaitsWhileDataShort := by
  intro s hr hf hshort
  obtain ⟨hbuf, hin, hload⟩ := s.clearDiag.collect_some hshort
  have hstep := step_load hr hf
  rw [State.continueLoad_short _ hload] at hstep
  exact ⟨_, hstep, hf, hbuf, hin, rfl, rfl, rfl, rfl, rfl, rfl, rfl, rfl, rfl, rfl, rfl, rfl, rfl, rfl⟩

/-- Settles O56: the frame of the cut exchange is header, the data taken before and the data taken now. -/
theorem resetCutsLoad : Obligations.ResetCutsLoad := by
  intro s more rest n hr hf hop hq hv hw hl hn hrst
  obtain ⟨hbuf, hin, hload⟩ := s.clearDiag.collect_all more rest hv hw hl
  have hframe := s.clearDiag.collect.txBytes_collected (Machine.writeFrame s.addrQ s.ctrlQ (s.wbuf ++ more)) hop hq
    (by rw [hbuf]; simpa using hl) (by rw [hbuf]; rfl)
  obtain ⟨hcut, hd⟩ := State.perform_cut _ State.settleSingle n _ hframe hn hrst
  have hstep := step_load hr hf
  rw [State.continueLoad_loaded _ hload] at hstep
  exact ⟨_, hstep, hcut, hd.trans hin⟩

/-! ### Pulses -/

/-- Settles O24: the three kinds of exchange, each with the pulses of its frame. -/
theorem eightPulsesAByte : Obligations.EightPulsesAByte := by
  refine ⟨?_, ?_, ?_⟩
  · rintro s addr ctrl len i hlen hfail hrst (rfl | ⟨rfl, hoff⟩)
    · exact ⟨_, exec_read_accepted s addr ctrl len hlen,
        (s.accept.latch Device.OP_READ addr ctrl len).performSingle_pulses hfail hrst⟩
    · have hexec := exec_write_accepted s addr ctrl len hlen
      rw [State.continueLoad_loaded _ ((s.accept.latch Device.OP_WRITE addr ctrl len).enterLoad.collect_loaded hoff)]
        at hexec
      exact ⟨_, hexec, (s.accept.latch Device.OP_WRITE addr ctrl len).enterLoad.collect.performSingle_pulses hfail hrst⟩
  · intro s hr hf hoff hfail hrst
    have hstep := step_load hr hf
    rw [State.continueLoad_loaded _ (s.clearDiag.collect_loaded hoff)] at hstep
    exact ⟨_, hstep, s.clearDiag.collect.performSingle_pulses hfail hrst⟩
  · intro s hfail hrst i hi
    have row : ∀ k r, r ≠ .wait → exec i s = .next (s.runMicroStep k r) →
        ∃ t, exec i s = .next t ∧ t.ch.pulses = s.ch.pulses + 32 ∧ t.ch.sclk = false :=
      fun k r hw he => ⟨_, he, s.runMicroStep_pulses k r hw hfail hrst⟩
    simp only [List.mem_cons, List.not_mem_nil, or_false] at hi
    rcases hi with rfl | rfl | rfl | rfl | rfl | rfl | rfl | rfl | rfl <;> exact row _ _ (by decide) rfl

end Sys2Proof.Proofs

/-! # The micro-steps of a BRINGUP

What each micro-step leads to, by kind of row; what `rst` makes of it; how `upc`, the response and the operands move. -/

namespace Sys2Proof.Machine

open Sys2Proof

/-! ### Going on to the next micro-step -/

/-- Micro-step `k` has succeeded: the block is in the state in which the next one has begun, or in `Present`. -/
def State.GoesOn (t : State) (k : Upc) : Prop := ∃ x : State, x.seqActive = true ∧ x.ch.cs = false ∧ t = x.advance k

/-- A sequence that goes on is still active (10_state.md R28; log 9). -/
theorem State.GoesOn.seqActive {t : State} {k : Upc} (h : t.GoesOn k) : t.seqActive = true := by
  obtain ⟨x, hq, -, rfl⟩ := h
  exact x.advance_seqActive k hq

/-- The next micro-step is the one in progress, or `upc` is at 10 (10_state.md R25). -/
theorem State.GoesOn.upc {t : State} {k : Upc} (h : t.GoesOn k) : t.upc = k + 1#4 := by
  obtain ⟨x, -, -, rfl⟩ := h
  by_cases h9 : k = 9#4
  · subst h9; rfl
  · rw [x.advance_next k h9, enterMicroStep_upc]

/-- After S1W the wait begins, with chip-select released and the wait counter loaded (10_state.md R27; log 8). -/
theorem State.GoesOn.waits {t : State} (h : t.GoesOn 0#4) :
    t.fsm = .wait ∧ t.ch.cs = false ∧ t.waitCnt = t.cfg.waitCycles := by
  obtain ⟨x, -, -, rfl⟩ := h
  exact ⟨rfl, rfl, rfl⟩

/-- The exchange of the next micro-step has begun, unless that is S1WAIT or there is none (log 8). -/
theorem State.GoesOn.begins {t : State} {k : Upc} (h : t.GoesOn k) (h0 : k ≠ 0#4) (h8 : k.toNat ≤ 8) :
    t.BeginsExchange (k + 1#4) := by
  obtain ⟨x, -, -, rfl⟩ := h
  have hk : ∀ k : Upc, k ≠ 0#4 → k.toNat ≤ 8 → k ≠ 9#4 ∧ (k + 1#4).toNat ≤ 9 ∧ k + 1#4 ≠ 1#4 := by decide
  obtain ⟨h9, hle, hne⟩ := hk k h0 h8
  rw [x.advance_next k h9]
  exact State.enterMicroStep_begins _ x hle hne

/-- After the last micro-step the sequence has come to `Present`. -/
theorem State.GoesOn.present {t : State} (h : t.GoesOn 9#4) : t.EndsPresent := by
  obtain ⟨x, hq, hc, rfl⟩ := h
  exact x.finishPresent_ends hc hq

/-! ### Outcomes by kind of row -/

/-- What a write micro-step does that `rst` spares: one exchange, after which the sequence goes on or ends in `Absent`. -/
theorem State.write_microStep_outcome (s : State) (k : Upc) (a : Half) (c d : Byte)
    (hrow : microRow k = some (.write a c d)) (hr : s.rstCuts 4 = false) :
    s.UsesOneAnswer (s.runMicroStep k (.write a c d)) ∧
    (s.failsAt 0 4 = false →
      (s.runMicroStep k (.write a c d)).GoesOn k ∧
      (s.runMicroStep k (.write a c d)).bus = s.bus ++ [.exchange (header a c ++ [d]) true] ∧
      (s.runMicroStep k (.write a c d)).diagLog = s.diagAfter (xferIf s.traceQ (.xfer .w a c [d] true))) ∧
    (s.failsAt 0 4 = true →
      (s.runMicroStep k (.write a c d)).EndsAbsent ∧
      (∃ m, (s.runMicroStep k (.write a c d)).bus = s.bus ++ [.exchange ((header a c ++ [d]).take m) false]) ∧
      (s.runMicroStep k (.write a c d)).diagLog =
        s.diagAfter (xferIf s.traceQ (.xfer .w a c [d] false) ++ [.busfail k])) := by
  obtain ⟨hok, hfail⟩ := s.microWriteExchange_bus k a c d hrow
  have hev := s.microWriteExchange_xferEvent k a c d hrow
  rw [s.runMicroStep_write k a c d hr]
  refine ⟨by split <;> simp [UsesOneAnswer], fun h => ?_, fun h => ?_⟩
  · simp only [h]
    exact ⟨⟨_, by simp, by simp, rfl⟩, by simpa using hok h, by simp [hev, h]⟩
  · simp only [h, if_true]
    exact ⟨abortOnBusFailure_ends _ _ (by simp) (by simp), by simpa using hfail h, by simp [hev, h]⟩

/-- What a read micro-step does that `rst` spares: one exchange; on a bus failure or a fatal mismatch the sequence ends in
`Absent`, otherwise it goes on, with an event on a mismatch. -/
theorem State.read_microStep_outcome (s : State) (k : Upc) (a : Half) (c e : Byte) (st : Nat) (fatal : Bool)
    (hr : s.rstCuts 4 = false) :
    s.UsesOneAnswer (s.runMicroStep k (.read a c e st fatal)) ∧
    (s.failsAt 0 4 = false →
      (if fatal = true ∧ s.misoAt 0 3 ≠ e then (s.runMicroStep k (.read a c e st fatal)).EndsAbsent
        else (s.runMicroStep k (.read a c e st fatal)).GoesOn k) ∧
      (s.runMicroStep k (.read a c e st fatal)).bus = s.bus ++ [.exchange (header a c ++ [0x00#8]) true] ∧
      (s.runMicroStep k (.read a c e st fatal)).diagLog =
        s.diagAfter (xferIf s.traceQ (.xfer .r a c [s.misoAt 0 3] true) ++
          (if s.misoAt 0 3 = e then [] else [.mismatch st e (s.misoAt 0 3) fatal]))) ∧
    (s.failsAt 0 4 = true →
      (s.runMicroStep k (.read a c e st fatal)).EndsAbsent ∧
      (∃ m, (s.runMicroStep k (.read a c e st fatal)).bus = s.bus ++ [.exchange ((header a c ++ [0x00#8]).take m) false]) ∧
      (s.runMicroStep k (.read a c e st fatal)).diagLog =
        s.diagAfter (xferIf s.traceQ (.xfer .r a c [] false) ++ [.busfail k])) := by
  obtain ⟨hok, hfail⟩ := s.microReadExchange_bus k a c
  rw [s.runMicroStep_read k a c e st fatal hr]
  refine ⟨by split <;> simp [UsesOneAnswer], fun h => ?_, fun h => ?_⟩
  · simp only [h, Bool.false_eq_true, if_false]
    refine ⟨?_, by simpa using hok h, ?_⟩
    · unfold compareByte
      rw [s.microReadExchange_readByte k a c h]
      by_cases hb : s.misoAt 0 3 = e
      · simp only [hb, if_true, ne_eq, not_true_eq_false, and_false, if_false]
        exact ⟨_, by simp, by simp, rfl⟩
      · cases fatal
        · simp only [hb, if_false, Bool.false_eq_true, false_and]
          exact ⟨_, by simp, by simp, rfl⟩
        · simp only [hb, if_false, if_true, ne_eq, not_false_eq_true, and_self]
          exact finishAbsent_ends _ (by simp) (by simp)
    · unfold compareByte
      rw [s.microReadExchange_readByte k a c h]
      by_cases hb : s.misoAt 0 3 = e
      · simp [hb, h]
      · cases fatal <;> simp [hb, h]
  · simp only [h, if_true]
    exact ⟨abortOnBusFailure_ends _ _ (by simp) (by simp), by simpa using hfail h, by simp [h]⟩

/-- A write micro-step that `rst` cuts: what has gone out of its frame, and the reset. -/
theorem State.write_microStep_cut (s : State) (k : Upc) (a : Half) (c d : Byte) (n : Nat)
    (hrow : microRow k = some (.write a c d)) (hn : s.pins.rstDuring = some n) (hr : s.rstCuts 4 = true) :
    s.CutShort (s.runMicroStep k (.write a c d)) (header a c ++ [d]) n ∧
      (s.runMicroStep k (.write a c d)).wdataIn = s.wdataIn := by
  have hp : ((s.atMicroStep k).latch Device.OP_WRITE a c 1#16).payload = [d] := s.payload_microStep k a c d hrow
  have hframe := ((s.atMicroStep k).latch Device.OP_WRITE a c 1#16).txBytes_write rfl (by rw [hp]; rfl)
  rw [hp] at hframe
  exact ((s.atMicroStep k).latch Device.OP_WRITE a c 1#16).perform_cut _ n _ hframe hn hr

/-- A read micro-step that `rst` cuts. -/
theorem State.read_microStep_cut (s : State) (k : Upc) (a : Half) (c e : Byte) (st : Nat) (fatal : Bool) (n : Nat)
    (hn : s.pins.rstDuring = some n) (hr : s.rstCuts 4 = true) :
    s.CutShort (s.runMicroStep k (.read a c e st fatal)) (header a c ++ [0x00#8]) n ∧
      (s.runMicroStep k (.read a c e st fatal)).wdataIn = s.wdataIn :=
  ((s.atMicroStep k).latch Device.OP_READ a c 1#16).perform_cut _ n _ (State.txBytes_read _ rfl) hn hr

/-! ### Entering a micro-step -/

/-- Entering a micro-step other than S1WAIT leaves the wait counter alone. -/
theorem State.enterMicroStep_waitCnt (s : State) (k : Upc) (h : k ≠ 1#4) : (s.enterMicroStep k).waitCnt = s.waitCnt := by
  have noWait : ∀ k : Upc, k ≠ 1#4 → microRow k ≠ some .wait := by decide
  unfold enterMicroStep
  split
  · rename_i hrow
    exact absurd hrow (noWait k h)
  · simp
  · rfl

/-- Entering a micro-step makes no pulse. -/
theorem State.enterMicroStep_pulses (s : State) (k : Upc) : (s.enterMicroStep k).ch.pulses = s.ch.pulses := by
  unfold enterMicroStep
  split <;> simp

/-- A micro-step that leads to the exchange of a read micro-step has loaded its operands (30_encoding.md R93; log 8). -/
theorem State.runMicroStep_enters_read (s : State) {k k' : Upc} {row : MicroRow} {a : Half} {c e : Byte} {st : Nat}
    {fatal : Bool} (hf : (s.runMicroStep k row).fsm = .xfer) (hk : k + 1#4 = k')
    (hrow : microRow k' = some (.read a c e st fatal)) :
    (s.runMicroStep k row).upc = k' ∧ (s.runMicroStep k row).Latched Device.OP_READ a c 1#16 := by
  obtain ⟨-, x, e⟩ := s.runMicroStep_enters k row hf
  rw [e, hk, enterMicroStep, hrow]
  exact ⟨rfl, rfl, rfl, rfl, rfl⟩

/-- A micro-step that leads to the exchange of a write micro-step has loaded its operands. -/
theorem State.runMicroStep_enters_write (s : State) {k k' : Upc} {row : MicroRow} {a : Half} {c d : Byte}
    (hf : (s.runMicroStep k row).fsm = .xfer) (hk : k + 1#4 = k') (hrow : microRow k' = some (.write a c d)) :
    (s.runMicroStep k row).upc = k' ∧ (s.runMicroStep k row).Latched Device.OP_WRITE a c 1#16 := by
  obtain ⟨-, x, e⟩ := s.runMicroStep_enters k row hf
  rw [e, hk, enterMicroStep, hrow]
  exact ⟨rfl, rfl, rfl, rfl, rfl⟩

/-! ### The delivery leaves the sequencer and the response registers alone -/

/-- A step of RESP leaves `upc` and the status and length of the response alone. -/
theorem State.deliver_registers (s : State) :
    s.deliver.upc = s.upc ∧ s.deliver.respStatus = s.respStatus ∧ s.deliver.respLen = s.respLen := by
  unfold deliver
  split <;> split
  · rw [takeResponse_eq]; exact ⟨rfl, rfl, rfl⟩
  · exact ⟨rfl, rfl, rfl⟩
  · unfold takeByte
    split <;> [split; skip] <;> exact ⟨rfl, rfl, rfl⟩
  · exact ⟨rfl, rfl, rfl⟩

/-- Under the invariant the move of an active sequence, where `rst` is 0, is a micro-step or a delivery. -/
theorem State.Inv.move_of_seqActive {s t : State} (h : s.Inv) (hq : s.seqActive = true) (hr : s.pins.rst = false)
    (hm : s.Move t) :
    (s.fsm ≠ .resp ∧ ∃ row, t = s.runMicroStep s.upc row) ∨ (s.fsm = .resp ∧ t = s.deliver) := by
  have hbusy : s.fsm ≠ .idle ∧ s.fsm ≠ .load := by
    obtain ⟨hf, -⟩ | ⟨hf, -⟩ | ⟨hf, -⟩ := h.seq_step hq <;> simp [hf]
  cases hm with
  | reset hr' => rw [hr] at hr'; cases hr'
  | rest _ hf => exact absurd hf hbusy.1
  | refuse _ hf => exact absurd hf hbusy.1
  | read _ hf => exact absurd hf hbusy.1
  | write _ hf => exact absurd hf hbusy.1
  | bringup _ hf => exact absurd hf hbusy.1
  | load _ hf => exact absurd hf hbusy.2
  | microStep _ hd row hrow => exact .inl ⟨(h.of_due hd).2.2, row, rfl⟩
  | present _ hd hu => have := (h.of_due hd).2.1; simp [hu] at this
  | absent _ hd hu => have := (h.of_due hd).2.1; simp [hu] at this
  | resume _ hf hm => exact absurd hm (h.not_resume hf)
  | deliver _ hf => exact .inr ⟨hf, rfl⟩

end Sys2Proof.Machine

namespace Sys2Proof.Proofs

open Sys2Proof Sys2Proof.Machine

/-! ### Acceptance and terminal states -/

/-- Settles O27: acceptance enters micro-step 0, which begins its exchange. -/
theorem bringupStarts : Obligations.BringupStarts := fun s =>
  ⟨s.startBringup, rfl, rfl, rfl, rfl, State.enterMicroStep_begins 0#4 s.accept (by decide) (by decide), rfl, rfl,
    ⟨rfl, rfl, rfl, rfl, rfl, rfl⟩, rfl, rfl, rfl, rfl, rfl, rfl, rfl, rfl, rfl⟩

/-- Settles O34: by the definition of the two terminal actions. -/
theorem terminalStates : Obligations.TerminalStates := fun _ => ⟨rfl, rfl⟩

/-! ### Write micro-steps -/

/-- Settles O28: each is the outcome of a write row; S1W goes on to the wait, the others to an exchange. -/
theorem writeMicroSteps : Obligations.WriteMicroSteps := by
  intro s hr c hc
  have hrow : microRow c.2.1 = some (.write 0x0000#16 0x04#8 c.2.2) ∧ c.2.1.toNat ≤ 8 ∧
      exec c.1 s = .next (s.runMicroStep c.2.1 (.write 0x0000#16 0x04#8 c.2.2)) := by
    simp only [List.mem_cons, List.not_mem_nil, or_false] at hc
    rcases hc with rfl | rfl | rfl | rfl <;> exact ⟨rfl, by decide, rfl⟩
  obtain ⟨hrow, h8, hexec⟩ := hrow
  obtain ⟨ha, hok, hfail⟩ := s.write_microStep_outcome c.2.1 _ _ c.2.2 hrow hr
  obtain ⟨⟨hcfg, -⟩, -⟩ := s.runMicroStep_frame c.2.1 (.write 0x0000#16 0x04#8 c.2.2)
  refine ⟨_, hexec, ha, fun h => ?_, hfail⟩
  obtain ⟨hgo, hbus, hdiag⟩ := hok h
  refine ⟨hgo.upc, hgo.seqActive, fun h0 => ?_, fun h0 => hgo.begins h0 h8, hbus, hdiag⟩
  rw [h0] at hgo hcfg ⊢
  obtain ⟨hf, hcs, hw⟩ := hgo.waits
  exact ⟨hf, hcs, by rw [hw, hcfg]⟩

/-! ### The wait -/

/-- Settles O29: the ticks of the wait, and then S1R begins. -/
theorem resetWait : Obligations.ResetWait := by
  intro s hr
  refine ⟨fun n _ => (s.atMicroStep 1#4).waitTicks_waiting n, s.runMicroStep 1#4 rowS1WAIT, rfl, ?_⟩
  rw [s.runMicroStep_s1wait hr]
  refine ⟨State.enterMicroStep_begins 2#4 _ (by decide) (by decide), ?_⟩
  simp [State.enterMicroStep_waitCnt, State.enterMicroStep_pulses]

/-- Settles O58: the wait is cut, and a reset with chip-select released touches no exchange. -/
theorem resetCutsWait : Obligations.ResetCutsWait := by
  intro s n hn hlt
  have hcut : s.rstCutsWait = true := by rw [State.rstCutsWait, hn, Option.any_some, decide_eq_true hlt]
  have hexec : exec .s1wait s = .next ((s.atMicroStep 1#4).enterWait.waitTicks n).doReset :=
    congrArg _ (s.runMicroStep_wait_cut 1#4 n hn hcut)
  obtain ⟨h1, h2, -, h3⟩ := s.cutWait_facts n 1#4
  exact ⟨_, hexec, h1, h2, h3⟩

/-! ### Read micro-steps -/

/-- Settles O31: S1R is a read row whose mismatch is fatal. -/
theorem resetReadback : Obligations.ResetReadback := by
  intro s hr
  obtain ⟨ha, hok, hfail⟩ := s.read_microStep_outcome 2#4 0x0000#16 0x00#8 0x00#8 1 true hr
  refine ⟨_, rfl, ha, fun h => ?_, hfail⟩
  obtain ⟨hend, hbus, hdiag⟩ := hok h
  refine ⟨hbus, fun hb => ?_, fun hb => ?_⟩
  · rw [if_neg (fun h => h.2 hb)] at hend
    rw [if_pos hb, hb, List.append_nil] at hdiag
    exact ⟨hend.begins (by decide) (by decide), hend.seqActive, hdiag⟩
  · rw [if_neg hb] at hdiag
    rw [if_pos ⟨rfl, hb⟩] at hend
    exact ⟨hend, hdiag⟩

/-- Settles O32: the probe reads are read rows whose mismatch is not fatal. -/
theorem probeReads : Obligations.ProbeReads := by
  intro s hr c hc
  have hrow : c.2.1 ≠ 0#4 ∧ c.2.1.toNat ≤ 8 ∧
      exec c.1 s = .next (s.runMicroStep c.2.1 (.read 0x0000#16 0x00#8 c.2.2.1 c.2.2.2 false)) := by
    simp only [List.mem_cons, List.not_mem_nil, or_false] at hc
    rcases hc with rfl | rfl | rfl <;> exact ⟨by decide, by decide, rfl⟩
  obtain ⟨h0, h8, hexec⟩ := hrow
  obtain ⟨ha, hok, hfail⟩ := s.read_microStep_outcome c.2.1 0x0000#16 0x00#8 c.2.2.1 c.2.2.2 false hr
  refine ⟨_, hexec, ha, fun h => ?_, hfail⟩
  obtain ⟨hgo, hbus, hdiag⟩ := hok h
  rw [if_neg (by simp)] at hgo
  exact ⟨hgo.begins h0 h8, hgo.seqActive, hbus, hdiag⟩

/-- Settles O33: S5R is a read row whose mismatch is fatal, and the last one. -/
theorem identityCheck : Obligations.IdentityCheck := by
  intro s hr
  obtain ⟨ha, hok, hfail⟩ := s.read_microStep_outcome 9#4 0x0039#16 0x00#8 0x04#8 5 true hr
  refine ⟨_, rfl, ha, fun h => ?_, hfail⟩
  obtain ⟨hend, hbus, hdiag⟩ := hok h
  refine ⟨hbus, fun hb => ?_, fun hb => ?_⟩
  · rw [if_neg (fun h => h.2 hb)] at hend
    rw [if_pos hb, hb, List.append_nil] at hdiag
    exact ⟨hend.present, hdiag⟩
  · rw [if_neg hb] at hdiag
    rw [if_pos ⟨rfl, hb⟩] at hend
    exact ⟨hend, hdiag⟩

/-- Settles O57: each of the nine frames is that of its row. -/
theorem resetCutsMicroSteps : Obligations.ResetCutsMicroSteps := by
  intro s n hn hr
  simp only [bringupFrames, List.zip_cons_cons, List.zip_nil_right, List.forall_mem_cons, List.not_mem_nil, false_imp_iff,
    implies_true, and_true]
  exact ⟨⟨_, rfl, s.write_microStep_cut 0#4 _ _ _ n rfl hn hr⟩, ⟨_, rfl, s.read_microStep_cut 2#4 _ _ _ _ _ n hn hr⟩,
    ⟨_, rfl, s.write_microStep_cut 3#4 _ _ _ n rfl hn hr⟩, ⟨_, rfl, s.read_microStep_cut 4#4 _ _ _ _ _ n hn hr⟩,
    ⟨_, rfl, s.write_microStep_cut 5#4 _ _ _ n rfl hn hr⟩, ⟨_, rfl, s.read_microStep_cut 6#4 _ _ _ _ _ n hn hr⟩,
    ⟨_, rfl, s.write_microStep_cut 7#4 _ _ _ n rfl hn hr⟩, ⟨_, rfl, s.read_microStep_cut 8#4 _ _ _ _ _ n hn hr⟩,
    ⟨_, rfl, s.read_microStep_cut 9#4 _ _ _ _ _ n hn hr⟩⟩

/-! ### Properties of every step of an active sequence -/

/-- Settles O38: a micro-step makes progress or is the reset that cuts it short; a delivery leaves `upc` alone. -/
theorem upcOnlyIncreases : Obligations.UpcOnlyIncreases := by
  intro s t h hq hr hst
  obtain ⟨u, hm, rfl⟩ := move_of_step hst
  obtain ⟨hf, row, rfl⟩ | ⟨hf, rfl⟩ := h.clearDiag.move_of_seqActive hq hr hm
  · refine ⟨fun _ => ?_, fun hf' => absurd hf' hf⟩
    have hsucc : ∀ k : Upc, k.toNat ≤ 9 → (k + 1#4).toNat = k.toNat + 1 := by decide
    have hk : s.upc.toNat ≤ 9 := by
      obtain ⟨-, hk, -⟩ | ⟨-, hk⟩ | ⟨hf', -⟩ := h.seq_step hq
      · exact hk
      · simp [hk]
      · exact absurd hf' hf
    obtain (⟨hq', hu, h9, hf', -⟩ | ⟨hq', hf', ⟨h9, hu⟩ | hu, -⟩) | ⟨hn, hres⟩ :=
      s.clearDiag.runMicroStep_outcome s.upc row
    · exact .inl ⟨hq', (congrArg BitVec.toNat hu).trans (hsucc _ hk), fun e => absurd e hf', fun e => absurd e h9⟩
    · exact .inl ⟨hq', (congrArg BitVec.toNat hu).trans (by simp [h9]), fun _ => h9, fun _ => hf'⟩
    · exact .inr (.inl ⟨hq', hu, hf'⟩)
    · exact .inr (.inr ⟨hn, hres⟩)
  · exact ⟨fun hf' => absurd hf hf', fun _ => s.clearDiag.deliver_registers.1⟩

/-- Settles O39: a micro-step that answers answers OK without data, and a delivery leaves the response as it is. -/
theorem bringupNeverReportsBusFailure : Obligations.BringupNeverReportsBusFailure := by
  intro s t h hq hst hv
  obtain ⟨u, hm, rfl⟩ := move_of_step hst
  cases hr : s.pins.rst with
  | true =>
    cases hm with
    | reset => cases hv
    | _ hr' => rw [show s.clearDiag.pins.rst = true from hr] at hr'; cases hr'
  | false =>
    obtain ⟨hf, row, rfl⟩ | ⟨hf, rfl⟩ := h.clearDiag.move_of_seqActive hq hr hm
    · obtain (⟨-, -, -, -, hv'⟩ | ⟨-, -, -, hst', hlen⟩) | ⟨-, -, -, -, hv', -⟩ :=
        s.clearDiag.runMicroStep_outcome s.upc row
      · exact absurd (h.valid_resp (hv'.symm.trans hv)) hf
      · exact ⟨hst', hlen⟩
      · exact absurd (hv'.symm.trans hv) (by simp)
    · obtain ⟨-, hst', hlen⟩ := s.clearDiag.deliver_registers
      obtain ⟨hx, -⟩ | ⟨hx, -⟩ | ⟨-, -, -, hok, hzero⟩ := h.seq_step hq
      · exact absurd (hx.symm.trans hf) (by decide)
      · exact absurd (hx.symm.trans hf) (by decide)
      · exact ⟨hst'.trans hok, hlen.trans hzero⟩

/-- Settles O44: LOAD and RESP leave the operands alone; a micro-step that leads to an exchange has entered the next one,
with the row's constants. -/
theorem operandsHeldUntilDelivery : Obligations.OperandsHeldUntilDelivery := by
  constructor
  · intro s t h hr hidle hq hst
    obtain ⟨u, hm, rfl⟩ := move_of_step hst
    have notDue : ¬ s.clearDiag.MicroStepDue := fun hd => by
      obtain ⟨hq', -, hf⟩ := h.clearDiag.of_due hd
      obtain hq | hq := hq
      · exact absurd (hq.symm.trans hq') (by decide)
      · exact hf hq
    cases hm with
    | reset hr' => exact absurd (hr.symm.trans hr') (by decide)
    | rest _ hf => exact absurd hf hidle
    | refuse _ hf => exact absurd hf hidle
    | read _ hf => exact absurd hf hidle
    | write _ hf => exact absurd hf hidle
    | bringup _ hf => exact absurd hf hidle
    | load => exact s.clearDiag.continueLoad_sameOperands
    | microStep _ hd => exact absurd hd notDue
    | present _ hd => exact absurd hd notDue
    | absent _ hd => exact absurd hd notDue
    | resume _ hf hm => exact absurd hm (h.clearDiag.not_resume hf)
    | deliver => exact .inl s.clearDiag.deliver_sameOperands
  · intro s t i hi he hf
    simp only [List.mem_cons, List.not_mem_nil, or_false] at hi
    rcases hi with rfl | rfl | rfl | rfl | rfl | rfl | rfl | rfl | rfl | rfl <;> cases he
    · obtain ⟨-, x, e⟩ := s.runMicroStep_enters 0#4 _ hf
      rw [e] at hf
      cases hf
    · exact ⟨(2#4, Device.OP_READ, Device.MR, Device.CTRL_RD), by decide, s.runMicroStep_enters_read hf rfl rfl⟩
    · exact ⟨(3#4, Device.OP_WRITE, Device.MR, Device.CTRL_WR), by decide, s.runMicroStep_enters_write hf rfl rfl⟩
    · exact ⟨(4#4, Device.OP_READ, Device.MR, Device.CTRL_RD), by decide, s.runMicroStep_enters_read hf rfl rfl⟩
    · exact ⟨(5#4, Device.OP_WRITE, Device.MR, Device.CTRL_WR), by decide, s.runMicroStep_enters_write hf rfl rfl⟩
    · exact ⟨(6#4, Device.OP_READ, Device.MR, Device.CTRL_RD), by decide, s.runMicroStep_enters_read hf rfl rfl⟩
    · exact ⟨(7#4, Device.OP_WRITE, Device.MR, Device.CTRL_WR), by decide, s.runMicroStep_enters_write hf rfl rfl⟩
    · exact ⟨(8#4, Device.OP_READ, Device.MR, Device.CTRL_RD), by decide, s.runMicroStep_enters_read hf rfl rfl⟩
    · exact ⟨(9#4, Device.OP_READ, Device.VERSIONR, Device.CTRL_RD), by decide, s.runMicroStep_enters_read hf rfl rfl⟩
    · exact absurd rfl (s.runMicroStep_enters 9#4 _ hf).1

end Sys2Proof.Proofs

/-! # Steps by engine state

The step of each engine state in which no exchange begins: reset, rest, refusal, delivery; the exchange in mid-frame; the
bits of a byte slot; the build parameters. -/

namespace Sys2Proof.Machine

open Sys2Proof

/-! ### The step of each engine state -/

/-- With `rst` at 1 a step is the reset (70_reset_and_hazards.md R230). -/
theorem step_reset {s : State} (hr : s.pins.rst = true) : step s = .next s.clearDiag.doReset.tickPins := by
  have ha : s.clearDiag.nextAction = .reset := by simp [State.nextAction, hr]
  simp only [step, ha]

/-- A step of an idle block to which nothing is presented does nothing (10_state.md R26). -/
theorem step_rest {s : State} (hr : s.pins.rst = false) (hf : s.fsm = .idle) (hp : s.presented = none) :
    step s = .next s.clearDiag.tickPins := by
  have hp' : s.clearDiag.presented = none := hp
  have ha : s.clearDiag.nextAction = .idle := by simp [State.nextAction, hr, hf, hp']
  simp only [step, ha]

/-- In RESP, unless a micro-step is due, a step is a delivery. -/
theorem step_deliver {s : State} (hr : s.pins.rst = false) (hf : s.fsm = .resp)
    (h : s.seqActive = false ∨ s.respValid = true) : step s = .next s.clearDiag.deliver.tickPins := by
  have ha : s.clearDiag.nextAction = .deliver := by
    obtain h | h := h <;> simp [State.nextAction, hr, hf, h]
  simp only [step, ha]

/-- In mid-frame a step finishes the exchange. -/
theorem step_resume {s : State} (hr : s.pins.rst = false) (hf : s.fsm = .xfer)
    (h : s.seqActive = false ∨ (s.idx ≠ 0#17 ∧ (microRow s.upc).isSome = true)) :
    step s = .next s.clearDiag.resume.tickPins := by
  have ha : s.clearDiag.nextAction = .resume := by
    obtain h | ⟨hi, hm⟩ := h
    · simp [State.nextAction, hr, hf, h]
    · have hm' : microRow s.upc ≠ none := Option.isSome_iff_ne_none.1 hm
      simp [State.nextAction, hr, hf, hi, hm']
  simp only [step, ha]

/-- A micro-step of an active sequence that is due runs (10_state.md R25). -/
theorem nextAction_microStep {s : State} (hr : s.pins.rst = false) (hq : s.seqActive = true)
    (h : s.fsm = .wait ∨ (s.fsm = .resp ∧ s.respValid = false) ∨ (s.fsm = .xfer ∧ s.idx = 0#17)) :
    s.nextAction = .microStep := by
  obtain hf | ⟨hf, hv⟩ | ⟨hf, hi⟩ := h
  · simp [State.nextAction, hr, hf]
  · simp [State.nextAction, hr, hf, hq, hv]
  · simp [State.nextAction, hr, hf, hq, hi]

/-! ### The delivery -/

/-- The host takes the response record (10_state.md R28). -/
theorem State.deliver_of_ready {s : State} (hv : s.respValid = true) (hr : s.pins.respReady = true) :
    s.deliver = s.takeResponse := by simp [deliver, hv, hr]

/-- A response the host does not take stays. -/
theorem State.deliver_of_held {s : State} (hv : s.respValid = true) (hr : s.pins.respReady = false) : s.deliver = s := by
  simp [deliver, hv, hr]

/-- The host takes a byte of read data (30_encoding.md R92). -/
theorem State.deliver_of_data {s : State} (hv : s.respValid = false) (hr : s.pins.rdataReady = true) :
    s.deliver = s.takeByte := by simp [deliver, hv, hr]

/-- A byte of read data the host does not take stays. -/
theorem State.deliver_of_dataHeld {s : State} (hv : s.respValid = false) (hr : s.pins.rdataReady = false) :
    s.deliver = s := by simp [deliver, hv, hr]

/-- The delivery of a byte: it is handed over and counted, and after the last one the command is over (log 10). -/
theorem State.takeByte_eq {s : State} {b : Byte} (hb : s.rbuf[s.rdIdx]? = some b) :
    s.takeByte = { s with
      rdataOut := s.rdataOut ++ [b], rdIdx := s.rdIdx + 1
      fsm := if s.rdIdx + 1 < s.respLen.toNat then s.fsm else .idle
      busy := if s.rdIdx + 1 < s.respLen.toNat then s.busy else false } := by
  have hd : s.rdata = some b := hb
  by_cases h : s.rdIdx + 1 < s.respLen.toNat <;> simp [takeByte, hd, goIdle, h]

/-! ### An exchange in mid-frame -/

/-- A byte slot on the way to the end of the frame: what is left is the rest of the exchange. -/
theorem State.finishExchange_byteSlot {s : State} (hi : s.idx.toNat < s.frameLen) (hs : s.sampleFail.stopsEarly = false) :
    s.sampleFail.byteSlot.finishExchange = s.finishExchange := by
  have hlen := s.frameLen_lt
  have hidx : s.sampleFail.byteSlot.idx.toNat = s.idx.toNat + 1 := by
    simp only [byteSlot_idx, sampleFail_idx, BitVec.toNat_add, BitVec.toNat_ofNat]
    omega
  have hleft : s.frameLen - s.idx.toNat = (s.frameLen - (s.idx.toNat + 1)) + 1 := by omega
  have hframe : s.sampleFail.byteSlot.frameLen = s.frameLen := rfl
  rw [finishExchange, finishExchange, hidx, hframe, hleft, transfer, hs, if_neg (by simp)]

/-- Without `rst`, an exchange in mid-frame is finished and settled. -/
theorem State.runExchange_of_noReset {s : State} (f : State → State) (h : s.pins.rstDuring = none) :
    s.runExchange f = f s.finishExchange := by
  simp only [runExchange, h]

/-- Finishing an exchange depends on where it comes to alone. -/
theorem State.resume_congr {s t : State} (hs : s.pins.rstDuring = none) (ht : t.pins.rstDuring = none)
    (hq : t.seqActive = s.seqActive) (hu : t.upc = s.upc) (hx : t.finishExchange = s.finishExchange) :
    t.resume = s.resume := by
  unfold resume
  rw [hq, hu]
  split
  · rw [runExchange_of_noReset _ hs, runExchange_of_noReset _ ht, hx]
  · rw [runExchange_of_noReset _ hs, runExchange_of_noReset _ ht, hx]

end Sys2Proof.Machine

namespace Sys2Proof.Proofs

open Sys2Proof Sys2Proof.Machine

/-! ### What a step runs -/

/-- Settles O6: the descriptor is the present action, and a step runs what it decodes to. -/
theorem stepRunsDecodedCommand : Obligations.StepRunsDecodedCommand := by
  intro s d i hr hf hv hd hdec
  have ha : s.clearDiag.nextAction = .command d := State.nextAction_of_presented hr hf hv hd
  simp only [step, ha, hdec]

/-- Settles O7: the micro-step is the present action, and a step runs what `upc` decodes to. -/
theorem stepRunsMicroStep : Obligations.StepRunsMicroStep := by
  intro s i hr hq h hdec
  have ha : s.clearDiag.nextAction = .microStep := nextAction_microStep hr hq h
  simp only [step, ha, hdec]

/-- Settles O10: both ways to be refused come to the same operation, whose frame is the model's field lemmas. -/
theorem refusedCommandChangesNothingElse : Obligations.RefusedCommandChangesNothingElse := by
  constructor
  · intro s d hr hf hv hd h1 h2 h3
    have hstep : step s = .next s.clearDiag.popCommand.refuseCommand.tickPins :=
      step_of_rejected (State.nextAction_of_presented hr hf hv hd) (decode_reservedOp h1 h2 h3)
    exact ⟨_, hstep, by simp [State.Untouched]⟩
  · intro s addr ctrl len hlen i hi
    have hexec : exec i s = .next s.refuseCommand := by
      rcases List.mem_pair.mp hi with rfl | rfl
      · exact exec_read_of_overlong hlen addr ctrl
      · exact exec_write_of_overlong hlen addr ctrl
    exact ⟨_, hexec, by simp [State.Untouched]⟩

/-! ### Reset and rest -/

/-- Settles O50: the fields of the state after reset. -/
theorem resetValues : Obligations.ResetValues :=
  ⟨rfl, rfl, rfl, rfl, rfl, rfl, rfl, rfl, rfl, rfl, rfl, rfl, rfl⟩

/-- Settles O52: nothing is presented where `cmd_valid` is 0 or the host's list is empty, as it is after reset. -/
theorem blockRestsAfterReset : Obligations.BlockRestsAfterReset := by
  refine ⟨fun s hr hf h => step_rest hr hf ?_, step_rest (s := State.reset) rfl rfl rfl⟩
  obtain hv | hc := h
  · simp [State.presented, hv]
  · simp [State.presented, hc]

/-- Settles O53: a step with `rst` is the reset, which cuts the frame in mid-air where it is. -/
theorem resetAbandonsCommand : Obligations.ResetAbandonsCommand := by
  intro s hr
  obtain ⟨hsame, -, -, hw⟩ := s.clearDiag.resetCutting_frame []
  refine ⟨_, step_reset hr, s.clearDiag.resetCutting_restarted [], hsame, hw, fun hc => ?_, fun hc => ?_⟩
  · simp [State.doReset, State.resetCutting, State.UsesOneAnswer, hc]
  · simp [State.doReset, State.resetCutting, hc]

/-! ### Delivery -/

/-- Settles O41: the step is the delivery of the record. -/
theorem deliveryEndsSequence : Obligations.DeliveryEndsSequence := by
  intro s hr hf hv hready
  refine ⟨_, step_deliver hr hf (.inr hv), ?_⟩
  rw [State.deliver_of_ready (s := s.clearDiag) hv hready, State.takeResponse_eq]
  refine ⟨rfl, rfl, rfl, ⟨⟨rfl, rfl, rfl, rfl⟩, rfl⟩, rfl, rfl, rfl, rfl, rfl, fun h => ?_, fun h => ?_⟩
  · simp [h]
  · simp [h, hf]

/-- Settles O42: the step is a delivery the host does not take. -/
theorem responseHeldUntilTaken : Obligations.ResponseHeldUntilTaken := by
  intro s hr hf
  refine ⟨fun hv hready => ?_, fun hv hq hready => ?_⟩
  · rw [step_deliver hr hf (.inr hv), State.deliver_of_held (s := s.clearDiag) hv hready]
  · rw [step_deliver hr hf (.inl hq), State.deliver_of_dataHeld (s := s.clearDiag) hv hready]

/-- Settles O43: the step is the delivery of the byte. -/
theorem dataByteDelivered : Obligations.DataByteDelivered := by
  intro s b hr hf hv hq hready hb
  refine ⟨_, step_deliver hr hf (.inl hq), ?_⟩
  rw [State.deliver_of_data (s := s.clearDiag) hv hready, State.takeByte_eq (s := s.clearDiag) hb]
  refine ⟨rfl, rfl, rfl, rfl, hv, hq, rfl, ⟨⟨rfl, rfl, rfl, rfl⟩, rfl⟩, rfl, rfl, rfl, rfl, rfl, rfl, fun h => ?_,
    fun h => ?_⟩
  · simp [h, hf]
  · simp [Nat.not_lt.mpr h]

/-! ### The wire -/

/-- Settles O25: eight bits are the bits of the byte they assemble to, and the byte slot of an exchange is eight pulses. -/
theorem byteSlotBitOrder : Obligations.ByteSlotBitOrder := by
  constructor
  · intro ch t m7 m6 m5 m4 m3 m2 m1 m0
    have hbits : bitsOf (byteOf [m7, m6, m5, m4, m3, m2, m1, m0]) = [m7, m6, m5, m4, m3, m2, m1, m0] := by
      simp only [bitsOf, byteOf, List.foldl, shiftIn_getLsbD]
      rfl
    have hslot := (ch.load t).shiftBits_bitsOf (byteOf [m7, m6, m5, m4, m3, m2, m1, m0])
    rw [hbits] at hslot
    simp only [bitsOf, List.cons.injEq, and_true] at hbits
    obtain ⟨h7, h6, h5, h4, h3, h2, h1, h0⟩ := hbits
    exact ⟨_, hslot, h7, h6, h5, h4, h3, h2, h1, h0, rfl, rfl, rfl, rfl⟩
  · intro s
    exact ⟨rfl, by rw [State.byteSlot_ch], s.byteSlot_sent⟩

/-- Settles O26: from one byte slot on the exchange comes to the same end. -/
theorem midFrameStepRefinesToByteSlots : Obligations.MidFrameStepRefinesToByteSlots := by
  intro s hr hn hf hi hm hs
  have hlen := s.frameLen_lt
  have hnext : s.sampleFail.byteSlot.idx ≠ 0#17 := by
    intro h
    have h' := congrArg BitVec.toNat h
    simp only [State.byteSlot_idx, State.sampleFail_idx, BitVec.toNat_add, BitVec.toNat_ofNat] at h'
    omega
  have hend : s.sampleFail.byteSlot.clearDiag.finishExchange = s.clearDiag.finishExchange :=
    State.finishExchange_byteSlot (s := s.clearDiag) hi hs
  rw [step_resume hr hf hm,
    step_resume (s := s.sampleFail.byteSlot) hr hf (hm.imp_right fun h => ⟨hnext, h.2⟩),
    State.resume_congr (s := s.clearDiag) (t := s.sampleFail.byteSlot.clearDiag) hn hn rfl rfl hend]

/-! ### The build parameters -/

/-- Settles O51: what MAXLEN adds to 255 is below 65281 in the build at hand. -/
theorem maxLenWithinBounds : Obligations.MaxLenWithinBounds := by
  have hextra := Config.maxLenExtra.isLt
  have hmax : State.reset.cfg.maxLen = 255 + Config.maxLenExtra.val := rfl
  constructor <;> omega

/-- Settles O30: the ceiling of a quotient, between it and the next cycle. -/
theorem waitLastsTenMilliseconds : Obligations.WaitLastsTenMilliseconds := by
  intro p
  have hwait : p.waitCycles = (p.rstWaitNs * p.fClk + 999999999) / 1000000000 := rfl
  have hns : 10000000 ≤ p.rstWaitNs := Nat.le_add_right _ _
  have hclk : 1 ≤ p.fClk := Nat.le_add_left _ _
  have hmul : 10000000 * p.fClk ≤ p.rstWaitNs * p.fClk := Nat.mul_le_mul_right _ hns
  generalize p.rstWaitNs * p.fClk = x at *
  generalize p.waitCycles = w at *
  refine ⟨hns, ?_, ?_, ?_, ?_⟩ <;> omega

end Sys2Proof.Proofs

/-! # Runs

Several steps at a time: the delivery of a response with its data, and a BRINGUP from any of its micro-steps to its
response. -/

namespace Sys2Proof.Machine

open Sys2Proof

/-! ### Runs of steps -/

theorem runSteps_succ {s t : State} (h : step s = .next t) (n : Nat) : runSteps (n + 1) s = runSteps n t := by
  simp only [runSteps, h]

/-- A run goes on where an earlier one has come to. -/
theorem runSteps_add {t : State} (n : Nat) : ∀ (m : Nat) (s : State), runSteps m s = .next t →
    runSteps (m + n) s = runSteps n t := by
  intro m
  induction m with
  | zero =>
    intro s h
    cases h
    rw [Nat.zero_add]
  | succ m ih =>
    intro s h
    rw [Nat.add_right_comm]
    rw [runSteps] at h ⊢
    cases hs : step s with
    | next u => simp only [hs] at h ⊢; exact ih u h
    | fault r => simp [hs] at h
    | refused r => simp [hs] at h

/-- No reset now or later, wherever the pins and their script are the same. -/
theorem State.NoReset.of_samePins {s t : State} (h : s.NoReset) (hp : t.pins = s.pins) (hs : t.pinScript = s.pinScript) :
    t.NoReset := by rwa [NoReset, hp, hs]

/-- A host that takes now and later, wherever the pins and their script are the same. -/
theorem State.HostTakes.of_samePins {s t : State} (h : s.HostTakes) (hp : t.pins = s.pins)
    (hs : t.pinScript = s.pinScript) : t.HostTakes := by rwa [HostTakes, hp, hs]

/-! ### Delivery of a response with its data -/

/-- From `s` to `t` the host has received these response records and bytes, and the block is idle again; no exchange was
performed and no descriptor taken. -/
structure State.Delivers (s t : State) (records : List Response) (bytes : List Byte) : Prop where
  idle : t.fsm = .idle
  notBusy : t.busy = false
  notValid : t.respValid = false
  notActive : t.seqActive = false
  responses : t.responses = s.responses ++ records
  rdataOut : t.rdataOut = s.rdataOut ++ bytes
  bus : t.bus = s.bus
  cmdIn : t.cmdIn = s.cmdIn

/-- The block waits in RESP, the record delivered, with `d` data bytes left to deliver (30_encoding.md R92; log 10). -/
structure State.DataLeft (s : State) (d : Nat) : Prop where
  resp : s.fsm = .resp
  taken : s.respValid = false
  notActive : s.seqActive = false
  stored : s.rbuf.length = s.respLen.toNat
  left : s.rdIdx + d = s.respLen.toNat

/-- One byte of data is delivered to a willing host: the last one, or one after which there is data left. -/
theorem State.DataLeft.step {s : State} {d : Nat} (h : s.DataLeft (d + 1)) (hn : s.NoReset) (ht : s.HostTakes) :
    ∃ b u, Machine.step s = .next u ∧ s.rbuf.drop s.rdIdx = b :: u.rbuf.drop u.rdIdx ∧
      u.rdataOut = s.rdataOut ++ [b] ∧ u.responses = s.responses ∧ u.bus = s.bus ∧ u.cmdIn = s.cmdIn ∧
      (d = 0 → s.Delivers u [] [b]) ∧ (d ≠ 0 → u.DataLeft d ∧ u.NoReset ∧ u.HostTakes) := by
  obtain ⟨hf, hv, hq, hlen, hleft⟩ := h
  obtain ⟨⟨hr, -⟩, -⟩ := id hn
  obtain ⟨⟨-, hready⟩, -⟩ := id ht
  have hlt : s.rdIdx < s.rbuf.length := by omega
  have he := takeByte_eq (s := s.clearDiag) (List.getElem?_eq_getElem hlt)
  have hstep := step_deliver hr hf (.inl hq)
  rw [deliver_of_data (s := s.clearDiag) hv hready] at hstep
  refine ⟨s.rbuf[s.rdIdx], _, hstep, ?_, by simp [he], by simp [he], by simp [he], by simp [he], fun hd => ?_, fun hd => ?_⟩
  · rw [List.drop_eq_getElem_cons hlt]
    simp [he]
  · have hlast : ¬ s.rdIdx + 1 < s.respLen.toNat := by omega
    constructor <;> simp [he, hlast, hv, hq]
  · have hmore : s.rdIdx + 1 < s.respLen.toNat := by omega
    refine ⟨⟨?_, ?_, ?_, ?_, ?_⟩, (hn.of_samePins ?_ ?_ : NoReset s.clearDiag.takeByte).tickPins,
      (ht.of_samePins ?_ ?_ : HostTakes s.clearDiag.takeByte).tickPins⟩ <;> simp [he, hmore, hf, hv, hq, hlen]
    omega

/-- A willing host receives the `d + 1` data bytes left, one a step. -/
theorem State.DataLeft.run (d : Nat) : ∀ s : State, s.DataLeft (d + 1) → s.NoReset → s.HostTakes →
    ∃ t, runSteps (d + 1) s = .next t ∧ s.Delivers t [] (s.rbuf.drop s.rdIdx) := by
  induction d with
  | zero =>
    intro s h hn ht
    obtain ⟨b, u, hstep, hdrop, -, -, -, -, hlast, -⟩ := h.step hn ht
    have hend : s.rbuf.drop s.rdIdx = [b] := by
      have hone := congrArg List.length hdrop
      have hleft := h.left
      have hstored := h.stored
      rw [hdrop]
      simp only [List.length_drop, List.length_cons] at hone
      rw [List.drop_of_length_le (by omega)]
    exact ⟨u, runSteps_succ hstep 0, hend ▸ hlast rfl⟩
  | succ d ih =>
    intro s h hn ht
    obtain ⟨b, u, hstep, hdrop, hout, hresp, hbus, hcmd, -, hmore⟩ := h.step hn ht
    obtain ⟨hu, hn', ht'⟩ := hmore (by omega)
    obtain ⟨t, hrun, h1, h2, h3, h4, h5, h6, h7, h8⟩ := ih u hu hn' ht'
    refine ⟨t, (runSteps_succ hstep _).trans hrun, h1, h2, h3, h4, by rw [h5, hresp], ?_, h7.trans hbus, h8.trans hcmd⟩
    rw [h6, hout, hdrop, List.append_assoc]
    rfl

/-- The block waits in RESP with a fresh response, whose data is there (30_encoding.md R92). -/
structure State.Answered (s : State) : Prop where
  resp : s.fsm = .resp
  valid : s.respValid = true
  fresh : s.rdIdx = 0
  stored : s.respLen ≠ 0#16 → s.rbuf.length = s.respLen.toNat

/-- A willing host receives the record and then the data: `1 + len` steps. -/
theorem State.Answered.run {s : State} (h : s.Answered) (hn : s.NoReset) (ht : s.HostTakes) :
    ∃ t, runSteps (1 + s.respLen.toNat) s = .next t ∧ s.Delivers t [s.response] (s.rbuf.take s.respLen.toNat) := by
  obtain ⟨hf, hv, h0, hlen⟩ := h
  obtain ⟨⟨hr, -⟩, -⟩ := id hn
  obtain ⟨⟨hready, -⟩, -⟩ := id ht
  have he := s.clearDiag.takeResponse_eq
  have hstep := step_deliver hr hf (.inr hv)
  rw [deliver_of_ready (s := s.clearDiag) hv hready] at hstep
  by_cases hz : s.respLen = 0#16
  · rw [hz]
    refine ⟨_, runSteps_succ hstep 0, ?_⟩
    constructor <;> simp [he, hz, response]
  · have hpos : s.respLen.toNat = (s.respLen.toNat - 1) + 1 := by
      have : s.respLen.toNat ≠ 0 := fun e => hz (BitVec.eq_of_toNat_eq e)
      omega
    have hdata : DataLeft s.clearDiag.takeResponse.tickPins (s.respLen.toNat - 1 + 1) := by
      constructor <;> simp [he, hz, hf, hlen hz, h0, ← hpos]
    obtain ⟨t, hrun, h1, h2, h3, h4, h5, h6, h7, h8⟩ := hdata.run _ _
      (hn.of_samePins (by simp [he]) (by simp [he]) : NoReset s.clearDiag.takeResponse).tickPins
      (ht.of_samePins (by simp [he]) (by simp [he]) : HostTakes s.clearDiag.takeResponse).tickPins
    have htake : s.rbuf.take s.respLen.toNat = s.rbuf := by rw [← hlen hz, List.take_length]
    refine ⟨t, ?_, h1, h2, h3, h4, ?_, ?_, ?_, ?_⟩
    · rw [Nat.add_comm, runSteps_succ hstep, hpos, hrun]
    · simpa [he, response] using h5
    · simpa [he, h0, htake] using h6
    · simpa [he] using h7
    · simpa [he] using h8

end Sys2Proof.Machine

namespace Sys2Proof.Proofs

open Sys2Proof Sys2Proof.Machine

/-- Settles O40: the run of a fresh response. -/
theorem responseAndDataDelivered : Obligations.ResponseAndDataDelivered := by
  intro s hf hv h0 hn ht hlen
  obtain ⟨t, hrun, h1, h2, h3, h4, h5, h6, h7, h8⟩ := State.Answered.run ⟨hf, hv, h0, hlen⟩ hn ht
  exact ⟨t, hrun, h1, h2, h3, h4, h5, h6, h7, h8⟩

end Sys2Proof.Proofs

/-! # A BRINGUP as a whole

The run of a BRINGUP, row by row of the micro-step table from any of its micro-steps: what it answers and which frames it
sends (41_bringup.md R158, R159); and that every command in progress ends. -/

namespace Sys2Proof.Machine

open Sys2Proof

/-! ### The rows of the table -/

/-- The rows of the micro-step table, in order (30_encoding.md R93). -/
def microRows : List MicroRow :=
  [rowS1W, rowS1WAIT, rowS1R, rowS2W, rowS2R, rowS3W, rowS3R, rowS4W, rowS4R, rowS5R]

/-- The rows from micro-step `k` on. -/
inductive RowsFrom : Upc → List MicroRow → Prop
  | last {row : MicroRow} (hrow : microRow 9#4 = some row) : RowsFrom 9#4 [row]
  | next {k : Upc} {row : MicroRow} {rows : List MicroRow} (hk : k.toNat ≤ 8) (hrow : microRow k = some row)
      (hrows : RowsFrom (k + 1#4) rows) : RowsFrom k (row :: rows)

/-- From every micro-step on the table has its rows. -/
theorem rowsFrom_drop (k : Upc) (hk : k.toNat ≤ 9) : RowsFrom k (microRows.drop k.toNat) := by
  have h9 : RowsFrom 9#4 (microRows.drop 9) := .last rfl
  have h8 : RowsFrom 8#4 (microRows.drop 8) := .next (by decide) rfl h9
  have h7 : RowsFrom 7#4 (microRows.drop 7) := .next (by decide) rfl h8
  have h6 : RowsFrom 6#4 (microRows.drop 6) := .next (by decide) rfl h7
  have h5 : RowsFrom 5#4 (microRows.drop 5) := .next (by decide) rfl h6
  have h4 : RowsFrom 4#4 (microRows.drop 4) := .next (by decide) rfl h5
  have h3 : RowsFrom 3#4 (microRows.drop 3) := .next (by decide) rfl h4
  have h2 : RowsFrom 2#4 (microRows.drop 2) := .next (by decide) rfl h3
  have h1 : RowsFrom 1#4 (microRows.drop 1) := .next (by decide) rfl h2
  have h0 : RowsFrom 0#4 (microRows.drop 0) := .next (by decide) rfl h1
  have hcases : ∀ k : Upc, k.toNat ≤ 9 → k = 0#4 ∨ k = 1#4 ∨ k = 2#4 ∨ k = 3#4 ∨ k = 4#4 ∨ k = 5#4 ∨ k = 6#4 ∨ k = 7#4 ∨
      k = 8#4 ∨ k = 9#4 := by decide
  rcases hcases k hk with rfl | rfl | rfl | rfl | rfl | rfl | rfl | rfl | rfl | rfl <;> assumption

/-- The frame of a row with an exchange (30_encoding.md R93). -/
def MicroRow.frame : MicroRow → List Byte
  | .write a c d => header a c ++ [d]
  | .wait => []
  | .read a c _ _ _ => header a c ++ [0x00#8]

/-- Whether the sequence goes on after a row's exchange: it has not failed, and the byte is the expected one where a
mismatch is fatal (41_bringup.md R143, R150, R153). -/
def MicroRow.passes (failed : Bool) (b : Byte) : MicroRow → Bool
  | .write _ _ _ => !failed
  | .wait => true
  | .read _ _ e _ fatal => !failed && (!fatal || b == e)

/-- After an exchange that has not failed a read row stops the sequence at a fatal mismatch alone. -/
theorem MicroRow.passes_read (b : Byte) (a : Half) (c e : Byte) (st : Nat) (fatal : Bool) :
    passes false b (.read a c e st fatal) = decide (¬ (fatal = true ∧ b ≠ e)) := by
  cases fatal <;> by_cases hb : b = e <;> simp [passes, hb]

/-- The frames of these rows, in order. -/
def rowFrames : List MicroRow → List (List Byte)
  | [] => []
  | row :: rows => if row = .wait then rowFrames rows else row.frame :: rowFrames rows

/-- Whether a sequence with these rows left, whose next exchange is `j` exchanges ahead, ends in `Present`. -/
def State.rowsPresent (s : State) : List MicroRow → Nat → Bool
  | [], _ => true
  | row :: rows, j =>
    if row = .wait then s.rowsPresent rows j
    else row.passes (s.failsAt j 4) (s.misoAt j 3) && s.rowsPresent rows (j + 1)

/-- How many exchanges a sequence with these rows left, whose next exchange is `j` exchanges ahead, performs. -/
def State.rowsCount (s : State) : List MicroRow → Nat → Nat
  | [], _ => 0
  | row :: rows, j =>
    if row = .wait then s.rowsCount rows j
    else if row.passes (s.failsAt j 4) (s.misoAt j 3) then s.rowsCount rows (j + 1) + 1 else 1

@[simp] theorem State.rowsPresent_nil (s : State) (j : Nat) : s.rowsPresent [] j = true := rfl

@[simp] theorem State.rowsCount_nil (s : State) (j : Nat) : s.rowsCount [] j = 0 := rfl

@[simp] theorem State.rowsPresent_write (s : State) (a : Half) (c d : Byte) (rows : List MicroRow) (j : Nat) :
    s.rowsPresent (.write a c d :: rows) j = (!s.failsAt j 4 && s.rowsPresent rows (j + 1)) := rfl

@[simp] theorem State.rowsPresent_wait (s : State) (rows : List MicroRow) (j : Nat) :
    s.rowsPresent (.wait :: rows) j = s.rowsPresent rows j := rfl

@[simp] theorem State.rowsPresent_read (s : State) (a : Half) (c e : Byte) (st : Nat) (fatal : Bool)
    (rows : List MicroRow) (j : Nat) : s.rowsPresent (.read a c e st fatal :: rows) j =
      (!s.failsAt j 4 && (!fatal || s.misoAt j 3 == e) && s.rowsPresent rows (j + 1)) := rfl

@[simp] theorem State.rowsCount_write (s : State) (a : Half) (c d : Byte) (rows : List MicroRow) (j : Nat) :
    s.rowsCount (.write a c d :: rows) j = if s.failsAt j 4 then 1 else s.rowsCount rows (j + 1) + 1 := by
  cases h : s.failsAt j 4 <;> simp [rowsCount, MicroRow.passes, h]

@[simp] theorem State.rowsCount_wait (s : State) (rows : List MicroRow) (j : Nat) :
    s.rowsCount (.wait :: rows) j = s.rowsCount rows j := rfl

@[simp] theorem State.rowsCount_read (s : State) (a : Half) (c e : Byte) (st : Nat) (fatal : Bool)
    (rows : List MicroRow) (j : Nat) : s.rowsCount (.read a c e st fatal :: rows) j =
      if s.failsAt j 4 || (fatal && s.misoAt j 3 != e) then 1 else s.rowsCount rows (j + 1) + 1 := by
  cases h : s.failsAt j 4 <;> cases fatal <;> by_cases hb : s.misoAt j 3 = e <;> simp [rowsCount, MicroRow.passes, h, hb]

/-- The frames of the whole table are the nine of a complete BRINGUP (41_bringup.md R159). -/
theorem rowFrames_microRows : rowFrames microRows = bringupFrames := rfl

/-- The rows' conditions are the result formula (41_bringup.md R158). -/
theorem State.rowsPresent_microRows (s : State) : s.rowsPresent microRows 0 = s.bringupPresent := by
  simp [microRows, rowS1W, rowS1WAIT, rowS1R, rowS2W, rowS2R, rowS3W, rowS3R, rowS4W, rowS4R, rowS5R,
    bringupPresent, bringupFail, bringupByte, Device.RST_READBACK, Device.VERSION_EXPECT, Bool.and_assoc]

/-- The rows' exchanges are as many as the outcome table says (41_bringup.md R159). -/
theorem State.rowsCount_microRows (s : State) : s.rowsCount microRows 0 = s.bringupCount := by
  simp only [microRows, rowS1W, rowS1WAIT, rowS1R, rowS2W, rowS2R, rowS3W, rowS3R, rowS4W, rowS4R, rowS5R,
    rowsCount_write, rowsCount_wait, rowsCount_read, rowsCount_nil, Nat.reduceAdd, Bool.true_and, Bool.false_and, Bool.or_false,
    bringupCount, bringupFail, bringupByte, Device.RST_READBACK]
  split_ifs <;> simp_all

/-! ### The oracle, one exchange on -/

/-- Where no answer is used up the rows' conditions stay. -/
theorem State.rows_congr {s u : State} (ha : u.answers = s.answers) (hn : u.exchNo = s.exchNo) (rows : List MicroRow) :
    ∀ j, u.rowsPresent rows j = s.rowsPresent rows j ∧ u.rowsCount rows j = s.rowsCount rows j := by
  induction rows with
  | nil => exact fun j => ⟨rfl, rfl⟩
  | cons row rows ih =>
    intro j
    obtain ⟨h1, h2⟩ := ih j
    obtain ⟨h3, h4⟩ := ih (j + 1)
    simp [rowsPresent, rowsCount, h1, h2, h3, h4, failsAt_congr s u j 4 ha hn, misoAt_congr s u j 3 ha hn]

/-- Where one answer is used up the rows' conditions are one exchange nearer. -/
theorem State.UsesOneAnswer.rows {s u : State} (h : s.UsesOneAnswer u) (rows : List MicroRow) :
    ∀ j, u.rowsPresent rows j = s.rowsPresent rows (j + 1) ∧ u.rowsCount rows j = s.rowsCount rows (j + 1) := by
  obtain ⟨ha, hn⟩ := id h
  induction rows with
  | nil => exact fun j => ⟨rfl, rfl⟩
  | cons row rows ih =>
    intro j
    obtain ⟨h1, h2⟩ := ih j
    obtain ⟨h3, h4⟩ := ih (j + 1)
    simp [rowsPresent, rowsCount, h1, h2, h3, h4, failsAt_succ s u j 4 ha hn, misoAt_succ s u j 3 ha hn]

/-- The frames of a bus history are those of its parts. -/
theorem sentFrames_append (es fs : List BusEvent) : sentFrames (es ++ fs) = sentFrames es ++ sentFrames fs := by
  induction es with
  | nil => rfl
  | cons e es ih =>
    cases e with
    | exchange sent ok => exact congrArg (sent :: ·) ih
    | wait n => exact ih
    | truncated sent bits => exact ih

/-! ### One micro-step of a sequence -/

/-- Micro-step `k` of the active sequence is about to run. -/
def State.AtMicroStep (s : State) (k : Upc) : Prop :=
  s.seqActive = true ∧ s.upc = k ∧ (s.fsm = .wait ∨ (s.fsm = .xfer ∧ s.idx = 0#17))

/-- The sequence stands at the micro-step after `k`, or after the last one in `Present`. -/
def State.Proceeds (s : State) (k : Upc) : Prop :=
  (k.toNat ≤ 8 → s.AtMicroStep (k + 1#4)) ∧ (k = 9#4 → s.EndsPresent)

theorem State.GoesOn.proceeds {t : State} {k : Upc} (h : t.GoesOn k) : t.Proceeds k := by
  refine ⟨fun h8 => ⟨h.seqActive, h.upc, ?_⟩, fun h9 => ?_⟩
  · by_cases h0 : k = 0#4
    · subst h0
      exact .inl h.waits.1
    · obtain ⟨-, hf, -, hi, -⟩ := h.begins h0 h8
      exact .inr ⟨hf, hi⟩
  · subst h9
    exact h.present

/-- New pin levels do not move the sequence. -/
theorem State.Proceeds.tickPins {t : State} {k : Upc} (h : t.Proceeds k) : t.tickPins.Proceeds k := h

/-- What one row's exchange has put on the wire: a first part of its frame, all of it unless the exchange fails. -/
def State.Sends (s t : State) (row : MicroRow) (sent : List Byte) : Prop :=
  sentFrames t.bus = sentFrames s.bus ++ [sent] ∧ (∃ m, sent = row.frame.take m) ∧
    (s.failsAt 0 4 = false → sent = row.frame)

/-- One exchange in the bus history is one frame sent. -/
theorem State.Sends.of_bus {s t : State} {row : MicroRow} {m : Nat} {ok : Bool}
    (hb : t.bus = s.bus ++ [.exchange (row.frame.take m) ok]) (hf : s.failsAt 0 4 = true) :
    s.Sends t row (row.frame.take m) :=
  ⟨by rw [hb, sentFrames_append]; rfl, ⟨m, rfl⟩, fun h => by rw [hf] at h; cases h⟩

/-- A whole exchange in the bus history is the row's frame sent. -/
theorem State.Sends.of_bus_ok {s t : State} {row : MicroRow} {ok : Bool}
    (hb : t.bus = s.bus ++ [.exchange row.frame ok]) : s.Sends t row row.frame :=
  ⟨by rw [hb, sentFrames_append]; rfl, ⟨row.frame.length, by rw [List.take_length]⟩, fun _ => rfl⟩

/-- What a row with an exchange does: it uses up one answer, sends its frame, and goes on or ends in `Absent`. -/
theorem State.runMicroStep_exchange (s : State) (k : Upc) (row : MicroRow) (hrow : microRow k = some row)
    (hw : row ≠ .wait) (hr : s.rstCuts 4 = false) :
    s.UsesOneAnswer (s.runMicroStep k row) ∧ (∃ sent, s.Sends (s.runMicroStep k row) row sent) ∧
      (row.passes (s.failsAt 0 4) (s.misoAt 0 3) = true → (s.runMicroStep k row).Proceeds k) ∧
      (row.passes (s.failsAt 0 4) (s.misoAt 0 3) = false → (s.runMicroStep k row).EndsAbsent) := by
  cases row with
  | wait => exact absurd rfl hw
  | write a c d =>
    obtain ⟨ha, hok, hfail⟩ := s.write_microStep_outcome k a c d hrow hr
    cases hf : s.failsAt 0 4 with
    | false =>
      obtain ⟨hgo, hbus, -⟩ := hok hf
      exact ⟨ha, ⟨_, .of_bus_ok hbus⟩, fun _ => hgo.proceeds, by simp [MicroRow.passes]⟩
    | true =>
      obtain ⟨hend, ⟨m, hbus⟩, -⟩ := hfail hf
      exact ⟨ha, ⟨_, .of_bus (row := .write a c d) hbus hf⟩, by simp [MicroRow.passes], fun _ => hend⟩
  | read a c e st fatal =>
    obtain ⟨ha, hok, hfail⟩ := s.read_microStep_outcome k a c e st fatal hr
    cases hf : s.failsAt 0 4 with
    | false =>
      obtain ⟨hend, hbus, -⟩ := hok hf
      refine ⟨ha, ⟨_, .of_bus_ok (row := .read a c e st fatal) hbus⟩, fun hp => ?_, fun hp => ?_⟩
      · rw [MicroRow.passes_read, decide_eq_true_eq] at hp
        rw [if_neg hp] at hend
        exact hend.proceeds
      · rw [MicroRow.passes_read, decide_eq_false_iff_not, not_not] at hp
        rw [if_pos hp] at hend
        exact hend
    | true =>
      obtain ⟨hend, ⟨m, hbus⟩, -⟩ := hfail hf
      exact ⟨ha, ⟨_, .of_bus (row := .read a c e st fatal) hbus hf⟩, by simp [MicroRow.passes], fun _ => hend⟩

/-- Without `rst` nothing is cut short. -/
theorem State.NoReset.spares {s : State} (h : s.NoReset) (n : Nat) : s.rstCuts n = false ∧ s.rstCutsWait = false := by
  obtain ⟨⟨-, hd⟩, -⟩ := h
  constructor
  · rw [rstCuts, hd, Option.any_none]
  · rw [rstCutsWait, hd, Option.any_none]

/-- A micro-step that is about to run is the next step; the pins are ticked after it. -/
theorem State.AtMicroStep.step {s : State} {k : Upc} {row : MicroRow} (h : s.AtMicroStep k) (hrow : microRow k = some row)
    (hn : s.NoReset) :
    Machine.step s = .next (s.clearDiag.runMicroStep k row).tickPins ∧ (s.clearDiag.runMicroStep k row).tickPins.NoReset ∧
      (s.HostTakes → (s.clearDiag.runMicroStep k row).tickPins.HostTakes) := by
  obtain ⟨hq, rfl, hf⟩ := h
  obtain ⟨⟨hr, -⟩, -⟩ := id hn
  obtain ⟨⟨-, hp, hs, -⟩, -⟩ := s.clearDiag.runMicroStep_frame s.upc row
  exact ⟨step_microStep s row hrow (nextAction_microStep hr hq (hf.imp_right .inr)), (hn.of_samePins hp hs).tickPins,
    fun ht => (ht.of_samePins hp hs).tickPins⟩

/-! ### The run of a sequence -/

/-- What a sequence with these rows left comes to: the response the rows' conditions say, and the frames of the rows it has
come to, each a first part of its frame, all of it unless its exchange fails. -/
structure State.SequenceEnds (s : State) (rows : List MicroRow) (t : State) (sent : List (List Byte)) : Prop where
  responds : t.Responds ⟨.ok, s.rowsPresent rows 0, 0#16⟩
  active : t.seqActive = true
  noReset : t.NoReset
  hostTakes : s.HostTakes → t.HostTakes
  frames : sentFrames t.bus = sentFrames s.bus ++ sent
  count : sent.length = s.rowsCount rows 0
  each : ∀ j, j < s.rowsCount rows 0 →
    (∃ m, sent[j]? = (rowFrames rows)[j]?.map (fun f => f.take m)) ∧
    (s.failsAt j 4 = false → sent[j]? = (rowFrames rows)[j]?)

/-- In `Present` no row is left. -/
theorem State.EndsPresent.sequenceEnds {t : State} (h : t.EndsPresent) (hn : t.NoReset) : t.SequenceEnds [] t [] := by
  obtain ⟨-, hq, hr⟩ := h
  exact ⟨hr, hq, hn, id, (List.append_nil _).symm, rfl, fun j hj => absurd hj (Nat.not_lt_zero j)⟩

/-- The wait comes before what the rows after it come to. -/
theorem State.SequenceEnds.after_wait {s u t : State} {rows : List MicroRow} {sent : List (List Byte)}
    (h : u.SequenceEnds rows t sent) (ha : u.answers = s.answers) (hn : u.exchNo = s.exchNo)
    (ht : s.HostTakes → u.HostTakes) (hb : sentFrames u.bus = sentFrames s.bus) :
    s.SequenceEnds (.wait :: rows) t sent := by
  obtain ⟨h1, h2, h3, h4, h5, h6, h7⟩ := h
  obtain ⟨hp, hc⟩ := State.rows_congr ha hn rows 0
  have hfail : ∀ j, u.failsAt j 4 = s.failsAt j 4 := fun j => failsAt_congr s u j 4 ha hn
  constructor
  · simpa [rowsPresent, hp] using h1
  · exact h2
  · exact h3
  · exact fun h => h4 (ht h)
  · rw [h5, hb]
  · simpa [rowsCount, hc] using h6
  · simpa [rowsCount, hc, rowFrames, hfail] using h7

/-- An exchange after which the sequence goes on comes before what the rows after it come to. -/
theorem State.SequenceEnds.after_exchange {s u t : State} {row : MicroRow} {rows : List MicroRow} {f : List Byte}
    {sent : List (List Byte)} (h : u.SequenceEnds rows t sent) (hw : row ≠ .wait) (ha : s.UsesOneAnswer u)
    (ht : s.HostTakes → u.HostTakes) (hs : s.Sends u row f)
    (hpass : row.passes (s.failsAt 0 4) (s.misoAt 0 3) = true) : s.SequenceEnds (row :: rows) t (f :: sent) := by
  obtain ⟨h1, h2, h3, h4, h5, h6, h7⟩ := h
  obtain ⟨hp, hc⟩ := ha.rows rows 0
  obtain ⟨hb, hpart, hwhole⟩ := hs
  have hfail : ∀ j, u.failsAt j 4 = s.failsAt (j + 1) 4 := fun j => failsAt_succ s u j 4 ha.1 ha.2
  constructor
  · simpa [rowsPresent, hw, hpass, hp] using h1
  · exact h2
  · exact h3
  · exact fun h => h4 (ht h)
  · rw [h5, hb, List.append_assoc]
    rfl
  · simpa [rowsCount, hw, hpass, hc] using h6
  · intro j hj
    cases j with
    | zero =>
      obtain ⟨m, hm⟩ := hpart
      exact ⟨⟨m, by simp [rowFrames, hw, hm]⟩, fun h => by simp [rowFrames, hw, hwhole h]⟩
    | succ j =>
      have hj' : j < u.rowsCount rows 0 := by
        rw [hc]
        simpa [rowsCount, hw, hpass] using hj
      simpa [rowFrames, hw, hfail] using h7 j hj'

/-- An exchange after which the sequence ends in `Absent` is the last one. -/
theorem State.EndsAbsent.sequenceEnds {s u : State} {row : MicroRow} (h : u.EndsAbsent) (hn : u.NoReset)
    (ht : s.HostTakes → u.HostTakes) (hw : row ≠ .wait) (rows : List MicroRow) {f : List Byte} (hs : s.Sends u row f)
    (hpass : row.passes (s.failsAt 0 4) (s.misoAt 0 3) = false) : s.SequenceEnds (row :: rows) u [f] := by
  obtain ⟨-, hq, hr⟩ := h
  obtain ⟨hb, ⟨m, hm⟩, hwhole⟩ := hs
  constructor
  · simpa [rowsPresent, hw, hpass] using hr
  · exact hq
  · exact hn
  · exact ht
  · exact hb
  · simp [rowsCount, hw, hpass]
  · intro j hj
    obtain rfl : j = 0 := by simpa [rowsCount, hw, hpass] using hj
    exact ⟨⟨m, by simp [rowFrames, hw, hm]⟩, fun h => by simp [rowFrames, hw, hwhole h]⟩

/-- One micro-step and then the rows after it. -/
theorem State.AtMicroStep.run_row {s : State} {k : Upc} {row : MicroRow} {rows : List MicroRow} (h : s.AtMicroStep k)
    (hrow : microRow k = some row) (hn : s.NoReset)
    (hrest : ∀ u : State, u.Proceeds k → u.NoReset → ∃ n t sent, n ≤ rows.length ∧ runSteps n u = .next t ∧
      u.SequenceEnds rows t sent) :
    ∃ n t sent, n ≤ rows.length + 1 ∧ runSteps n s = .next t ∧ s.SequenceEnds (row :: rows) t sent := by
  obtain ⟨hstep, hn', ht'⟩ := h.step hrow hn
  obtain ⟨hr, hrw⟩ := (show s.clearDiag.NoReset from hn).spares 4
  by_cases hw : row = .wait
  · subst hw
    have hgo : (s.clearDiag.runMicroStep k .wait).GoesOn k := by
      rw [s.clearDiag.runMicroStep_wait k hrw, runWait_eq]
      exact ⟨_, rfl, rfl, rfl⟩
    have hsame : (s.clearDiag.runMicroStep k .wait).answers = s.answers ∧
        (s.clearDiag.runMicroStep k .wait).exchNo = s.exchNo ∧
        sentFrames (s.clearDiag.runMicroStep k .wait).bus = sentFrames s.bus := by
      rw [s.clearDiag.runMicroStep_wait k hrw, runWait_eq]
      simp [sentFrames_append, sentFrames]
    obtain ⟨ha, hx, hb⟩ := hsame
    obtain ⟨n, t, sent, hle, hrun, hend⟩ := hrest _ hgo.proceeds.tickPins hn'
    exact ⟨n + 1, t, sent, by omega, (runSteps_succ hstep n).trans hrun, hend.after_wait ha hx ht' hb⟩
  · obtain ⟨ha, ⟨f, hs⟩, hpass, habs⟩ := s.clearDiag.runMicroStep_exchange k row hrow hw hr
    cases hp : row.passes (s.failsAt 0 4) (s.misoAt 0 3) with
    | true =>
      obtain ⟨n, t, sent, hle, hrun, hend⟩ := hrest _ (hpass hp).tickPins hn'
      exact ⟨n + 1, t, f :: sent, by omega, (runSteps_succ hstep n).trans hrun, hend.after_exchange hw ha ht' hs hp⟩
    | false =>
      have hend : (s.clearDiag.runMicroStep k row).tickPins.EndsAbsent := habs hp
      exact ⟨1, _, [f], by omega, runSteps_succ hstep 0, hend.sequenceEnds hn' ht' hw rows hs hp⟩

/-- From any micro-step on, without `rst`, the sequence ends after at most as many steps as rows are left. -/
theorem RowsFrom.run {k : Upc} {rows : List MicroRow} (hrows : RowsFrom k rows) : ∀ s : State, s.AtMicroStep k →
    s.NoReset → ∃ n t sent, n ≤ rows.length ∧ runSteps n s = .next t ∧ s.SequenceEnds rows t sent := by
  induction hrows with
  | last hrow =>
    intro s h hn
    exact h.run_row hrow hn fun u hu hn' => ⟨0, u, [], le_rfl, rfl, (hu.2 rfl).sequenceEnds hn'⟩
  | next hk hrow _ ih =>
    intro s h hn
    exact h.run_row hrow hn fun u hu hn' => ih u (hu.1 hk) hn'

/-- A BRINGUP that has just been accepted is at micro-step 0. -/
theorem State.AtBringupStart.atMicroStep {s : State} (h : s.AtBringupStart) : s.AtMicroStep 0#4 := by
  obtain ⟨hf, hq, hu, hi⟩ := h
  exact ⟨hq, hu, .inr ⟨hf, hi⟩⟩

/-- From the acceptance of a BRINGUP on, without `rst`, at most ten steps lead to its end. -/
theorem State.AtBringupStart.run {s : State} (h : s.AtBringupStart) (hn : s.NoReset) :
    ∃ n t sent, n ≤ 10 ∧ runSteps n s = .next t ∧ s.SequenceEnds microRows t sent :=
  (rowsFrom_drop 0#4 (by decide)).run s h.atMicroStep hn

/-! ### Every command in progress ends -/

/-- The response of a single command has its data with it. -/
theorem State.Responds.answered {t : State} {r : Response} (h : t.Responds r) (hz : r.len = 0#16) : t.Answered := by
  obtain ⟨hf, hv, rfl, h0, -⟩ := h
  exact ⟨hf, hv, h0, fun hne => absurd hz hne⟩

/-- A willing host ends the command whose response, without data, is there. -/
theorem State.Responds.ends {t : State} {r : Response} (h : t.Responds r) (hz : r.len = 0#16) (hn : t.NoReset)
    (ht : t.HostTakes) : ∃ u, runSteps 1 t = .next u ∧ u.fsm = .idle ∧ u.busy = false := by
  have hlen : t.respLen = 0#16 := (congrArg Response.len h.2.2.1).trans hz
  obtain ⟨u, hrun, hd⟩ := (h.answered hz).run hn ht
  rw [hlen] at hrun
  exact ⟨u, hrun, hd.idle, hd.notBusy⟩

/-- An active sequence ends, and its response is delivered: at most eleven steps. -/
theorem State.AtMicroStep.ends {s : State} {k : Upc} (h : s.AtMicroStep k) (hk : k.toNat ≤ 9) (hn : s.NoReset)
    (ht : s.HostTakes) : ∃ n, n ≤ 11 ∧ ∃ t, runSteps n s = .next t ∧ t.fsm = .idle ∧ t.busy = false := by
  obtain ⟨n, t, sent, hle, hrun, hend⟩ := (rowsFrom_drop k hk).run s h hn
  obtain ⟨u, hrun', hu⟩ := hend.responds.ends rfl hend.noReset (hend.hostTakes ht)
  have hlen : (microRows.drop k.toNat).length ≤ 10 := by rw [List.length_drop]; exact Nat.sub_le _ _
  exact ⟨n + 1, by omega, u, (runSteps_add 1 n s hrun).trans hrun', hu⟩

/-- A WRITE in LOAD ends once the missing data is offered: its exchange, and the delivery of its response. -/
theorem State.Inv.load_ends {s : State} (h : s.Inv) (hf : s.fsm = .load) (hn : s.NoReset) (ht : s.HostTakes)
    (hoff : s.wdataMissing ≤ s.wdataOffered.length) : ∃ t, runSteps 2 s = .next t ∧ t.fsm = .idle ∧ t.busy = false := by
  obtain ⟨hop, -⟩ := h.load_waits hf
  obtain ⟨⟨hr, -⟩, -⟩ := id hn
  obtain ⟨⟨-, hp, hs, -⟩, -⟩ := s.clearDiag.continueLoad_frame
  have hstep := step_load hr hf
  have hspared := (show s.clearDiag.collect.NoReset from hn).spares s.clearDiag.collect.frameLen
  have hresp : ∃ r, s.clearDiag.continueLoad.Responds r ∧ r.len = 0#16 := by
    rw [continueLoad_loaded _ (s.clearDiag.collect_loaded hoff), perform_spared _ _ hspared.1]
    cases hfail : s.clearDiag.collect.failsAt 0 s.clearDiag.collect.frameLen with
    | false =>
      have hne : ¬ s.clearDiag.collect.opQ = Device.OP_READ := by simp [hop, Device.OP_WRITE, Device.OP_READ]
      exact ⟨_, exchange_settleSingle_responds_ok _ hfail, if_neg hne⟩
    | true => exact ⟨_, exchange_settleSingle_responds_fail _ hfail, rfl⟩
  obtain ⟨r, hresp, hz⟩ := hresp
  obtain ⟨t, hrun, hend⟩ := ((tickPins_responds _ r).mpr hresp).ends hz (hn.of_samePins hp hs).tickPins
    (ht.of_samePins hp hs).tickPins
  exact ⟨t, (runSteps_succ hstep 1).trans hrun, hend⟩

/-- A response, or what is left of its data, is delivered to a willing host. -/
theorem State.Inv.resp_ends {s : State} (h : s.Inv) (hf : s.fsm = .resp) (hn : s.NoReset) (ht : s.HostTakes) :
    ∃ n, n ≤ 1 + s.respLen.toNat ∧ ∃ t, runSteps n s = .next t ∧ t.fsm = .idle ∧ t.busy = false := by
  cases hv : s.respValid with
  | true =>
    obtain ⟨t, hrun, hd⟩ := Answered.run ⟨hf, hv, h.data_after hv, h.data_len hf⟩ hn ht
    exact ⟨_, le_rfl, t, hrun, hd.idle, hd.notBusy⟩
  | false =>
    have hleft := h.data_left hf hv
    have hlen := h.data_len hf (fun e => by rw [e] at hleft; simp at hleft)
    have hq : s.seqActive = false := by
      by_contra hq
      obtain ⟨hx, -⟩ | ⟨hx, -⟩ | ⟨-, -, hv', -⟩ := h.seq_step (by simpa using hq) <;> simp_all
    obtain ⟨t, hrun, hd⟩ := DataLeft.run (s.respLen.toNat - s.rdIdx - 1) s ⟨hf, hv, hq, hlen, by omega⟩ hn ht
    exact ⟨_, by omega, t, hrun, hd.idle, hd.notBusy⟩

end Sys2Proof.Machine

namespace Sys2Proof.Proofs

open Sys2Proof Sys2Proof.Machine

/-- Settles O36: the run from micro-step 0, with the conditions of the rows as the result formula. -/
theorem bringupResultFormula : Obligations.BringupResultFormula := by
  intro s h hn
  obtain ⟨n, t, sent, hle, hrun, hend⟩ := h.run hn
  refine ⟨n, hle, t, hrun, ?_, hend.active⟩
  rw [← s.rowsPresent_microRows]
  exact hend.responds

/-- Settles O37: the same run, with its frames. -/
theorem bringupWireTrace : Obligations.BringupWireTrace := by
  intro s h hn
  obtain ⟨n, t, sent, hle, hrun, ⟨hf, hv, -⟩, -, -, -, hframes, hcount, heach⟩ := h.run hn
  rw [rowFrames_microRows] at heach
  rw [s.rowsCount_microRows] at hcount heach
  exact ⟨n, hle, t, sent, hrun, hf, hv, hframes, hcount, heach⟩

/-- Settles O49: by engine state: what LOAD, the sequence and RESP have left to do. -/
theorem everyCommandEnds : Obligations.EveryCommandEnds := by
  intro s h hn ht hidle hload
  cases hf : s.fsm with
  | idle => exact absurd hf hidle
  | load =>
    obtain ⟨hv, hmiss⟩ := hload hf
    obtain ⟨t, hrun, hend⟩ := h.load_ends hf hn ht (by simpa [State.wdataOffered, hv] using hmiss)
    exact ⟨2, by omega, t, hrun, hend⟩
  | xfer =>
    obtain ⟨hq, hi⟩ := h.xfer_seq hf
    obtain ⟨-, hk, -⟩ := h.of_due (.inr (.inl ⟨hf, hq⟩))
    obtain ⟨n, hle, hend⟩ := State.AtMicroStep.ends ⟨hq, rfl, .inr ⟨hf, hi⟩⟩ hk hn ht
    exact ⟨n, by omega, hend⟩
  | wait =>
    obtain ⟨hq, hk, -⟩ := h.of_due (.inl hf)
    obtain ⟨n, hle, hend⟩ := State.AtMicroStep.ends ⟨hq, rfl, .inl hf⟩ hk hn ht
    exact ⟨n, by omega, hend⟩
  | resp =>
    obtain ⟨n, hle, hend⟩ := h.resp_ends hf hn ht
    exact ⟨n, by omega, hend⟩

end Sys2Proof.Proofs

/-! # Noninterference of the trace

Every operation commutes with the erasure of diagnostic port, `trace_en` and diagnostic history (40_transport.md R114,
60_exceptions.md R212). -/

namespace Sys2Proof.Machine

open Sys2Proof

/-! ### Operations that commute with the erasure -/

/-- The operation does the same to a state without diagnostics. -/
def Commutes (f : State → State) : Prop := ∀ s, f s.eraseDiag = (f s).eraseDiag

theorem Commutes.comp {f g : State → State} (hg : Commutes g) (hf : Commutes f) : Commutes (fun s => g (f s)) :=
  fun s => (congrArg g (hf s)).trans (hg (f s))

/-- A choice that does not look at the diagnostics. -/
theorem Commutes.ite {p : State → Prop} [DecidablePred p] {f g : State → State} (hp : ∀ s, p s.eraseDiag ↔ p s)
    (hf : Commutes f) (hg : Commutes g) : Commutes (fun s => if p s then f s else g s) := by
  intro s
  by_cases h : p s
  · simp only [(hp s).mpr h, h, if_true]
    exact hf s
  · simp only [mt (hp s).mp h, h, if_false]
    exact hg s

/-- Erasing twice is erasing once. -/
theorem State.eraseDiag_eraseDiag (s : State) : s.eraseDiag.eraseDiag = s.eraseDiag := by
  simp [eraseDiag, Function.comp_def]

/-- New pin levels. -/
theorem commutes_tickPins : Commutes State.tickPins := by
  intro s
  have hpins : s.eraseDiag.tickPins.pins = s.tickPins.eraseDiag.pins := by
    cases h : s.pinScript <;> simp [State.eraseDiag, State.tickPins, h]
  have hscript : s.eraseDiag.tickPins.pinScript = s.tickPins.eraseDiag.pinScript := by
    cases h : s.pinScript <;> simp [State.eraseDiag, State.tickPins, h]
  calc s.eraseDiag.tickPins
      = { s.tickPins.eraseDiag with pins := s.eraseDiag.tickPins.pins, pinScript := s.eraseDiag.tickPins.pinScript } := rfl
    _ = s.tickPins.eraseDiag := by rw [hpins, hscript]

/-- An event is nothing but diagnostics. -/
theorem State.emit_eraseDiag (s : State) (e : DiagEvent) : (s.emit e).eraseDiag = s.eraseDiag := by
  unfold emit
  split <;> rfl

theorem commutes_emitXfer : Commutes State.emitXfer := by
  intro s
  have hq : s.eraseDiag.emitXfer = s.eraseDiag := rfl
  rw [hq]
  unfold State.emitXfer
  split
  · exact (s.emit_eraseDiag _).symm
  · rfl

/-! ### The exchange -/

theorem commutes_transfer (n : Nat) : Commutes (State.transfer n) := by
  induction n with
  | zero => exact fun s => rfl
  | succ n ih =>
    exact Commutes.ite (p := fun s => s.sampleFail.stopsEarly = true) (fun _ => Iff.rfl) (fun _ => rfl)
      (ih.comp (f := fun s => s.sampleFail.byteSlot) fun _ => rfl)

theorem commutes_finishExchange : Commutes State.finishExchange :=
  fun s => congrArg State.closeExchange (commutes_transfer (s.frameLen - s.idx.toNat) s)

theorem commutes_afterPulses (n : Nat) : Commutes (State.afterPulses n) :=
  Commutes.comp (g := State.sampleFail) (fun _ => rfl) (commutes_transfer _)

/-- The cut of an exchange that stands here, `m` bits into a byte slot. -/
def State.cutAt (m : Nat) (s : State) : State :=
  ({ s with ch := (s.partSlot m).2 } : State).resetCutting (s.partSlot m).1

theorem commutes_cutExchange (n : Nat) : Commutes (State.cutExchange n) :=
  Commutes.comp (g := State.cutAt (n % 8)) (fun _ => rfl) (commutes_afterPulses n)

theorem commutes_runExchange {f : State → State} (hf : Commutes f) : Commutes (State.runExchange f) := by
  intro s
  have hend : f s.eraseDiag.finishExchange = (f s.finishExchange).eraseDiag := hf.comp commutes_finishExchange s
  cases hr : s.pins.rstDuring with
  | none =>
    have hr' : s.eraseDiag.pins.rstDuring = none := hr
    simp only [State.runExchange, hr, hr', hend]
  | some n =>
    have hr' : s.eraseDiag.pins.rstDuring = some n := hr
    have hstop : (s.eraseDiag.afterPulses n).stopsEarly = (s.afterPulses n).stopsEarly := by
      rw [commutes_afterPulses n s]; rfl
    have hleft : s.eraseDiag.frameLen - s.eraseDiag.idx.toNat = s.frameLen - s.idx.toNat := rfl
    simp only [State.runExchange, hr, hr', hend, hstop, hleft, commutes_cutExchange n s]
    split <;> rfl

theorem commutes_perform {f : State → State} (hf : Commutes f) : Commutes (State.perform f) :=
  (commutes_runExchange hf).comp (f := State.beginExchange) fun _ => rfl

/-! ### READ and WRITE -/

theorem commutes_settleSingle : Commutes State.settleSingle :=
  Commutes.ite (p := fun s => s.failSeen = true) (fun _ => Iff.rfl)
    (Commutes.comp (g := State.raiseBusFailure) (fun _ => rfl) commutes_emitXfer)
    (Commutes.ite (p := fun s => s.opQ = Device.OP_READ) (fun _ => Iff.rfl)
      (fun s => congrArg (State.respond .ok false s.lenQ) (commutes_emitXfer s))
      (Commutes.comp (g := State.respond .ok false 0x0000#16) (fun _ => rfl) commutes_emitXfer))

theorem commutes_transportRead (a : Half) (c : Byte) (l : Half) : Commutes (State.transportRead a c l) :=
  Commutes.ite (p := fun s => s.lenOk l = true) (fun _ => Iff.rfl)
    ((commutes_perform commutes_settleSingle).comp (f := fun s => s.accept.latch Device.OP_READ a c l) fun _ => rfl)
    (fun _ => rfl)

theorem commutes_continueLoad : Commutes State.continueLoad :=
  Commutes.ite (p := fun s => s.collect.loaded = true) (fun _ => Iff.rfl)
    ((commutes_perform commutes_settleSingle).comp (f := State.collect) fun _ => rfl) (fun _ => rfl)

theorem commutes_transportWrite (a : Half) (c : Byte) (l : Half) : Commutes (State.transportWrite a c l) :=
  Commutes.ite (p := fun s => s.lenOk l = true) (fun _ => Iff.rfl)
    (commutes_continueLoad.comp (f := fun s => (s.accept.latch Device.OP_WRITE a c l).enterLoad) fun _ => rfl)
    (fun _ => rfl)

/-! ### The sequencer -/

theorem commutes_enterMicroStep (k : Upc) : Commutes (State.enterMicroStep k) := by
  intro s
  unfold State.enterMicroStep
  cases microRow k with
  | none => rfl
  | some row => cases row <;> rfl

theorem commutes_advance (k : Upc) : Commutes (State.advance k) :=
  Commutes.ite (p := fun _ => k = 9#4) (fun _ => Iff.rfl) (fun _ => rfl) (commutes_enterMicroStep _)

theorem commutes_abortOnBusFailure (k : Upc) : Commutes (State.abortOnBusFailure k) :=
  fun s => congrArg State.finishAbsent (s.emit_eraseDiag (.busfail k)).symm

theorem commutes_compareByte (k : Upc) (e : Byte) (st : Nat) (fatal : Bool) :
    Commutes (State.compareByte k e st fatal) := by
  have hemit : Commutes (fun s => s.emit (.mismatch st e s.readByte fatal)) :=
    fun s => (s.emit_eraseDiag (.mismatch st e s.readByte fatal)).symm
  exact Commutes.ite (p := fun s => s.readByte = e) (fun _ => Iff.rfl) (commutes_advance k)
    (Commutes.ite (p := fun _ => fatal = true) (fun _ => Iff.rfl)
      (Commutes.comp (g := State.finishAbsent) (fun _ => rfl) hemit) ((commutes_advance k).comp hemit))

theorem commutes_settleMicro (k : Upc) (row : MicroRow) : Commutes (State.settleMicro k row) := by
  have hfail := (commutes_abortOnBusFailure k).comp commutes_emitXfer
  cases row with
  | wait => exact commutes_advance k
  | write a c d =>
    exact Commutes.ite (p := fun s => s.failSeen = true) (fun _ => Iff.rfl) hfail
      ((commutes_advance k).comp commutes_emitXfer)
  | read a c e st fatal =>
    exact Commutes.ite (p := fun s => s.failSeen = true) (fun _ => Iff.rfl) hfail
      ((commutes_compareByte k e st fatal).comp commutes_emitXfer)

theorem commutes_runWait : Commutes State.runWait := by
  intro s
  rw [State.runWait_eq, State.runWait_eq]
  rfl

theorem commutes_passWait {f : State → State} (hf : Commutes f) : Commutes (State.passWait f) := by
  intro s
  have hend : f s.eraseDiag.runWait = (f s.runWait).eraseDiag := hf.comp commutes_runWait s
  cases hr : s.pins.rstDuring with
  | none =>
    have hr' : s.eraseDiag.pins.rstDuring = none := hr
    simp only [State.passWait, hr, hr', hend]
  | some n =>
    have hr' : s.eraseDiag.pins.rstDuring = some n := hr
    have hcut : (s.eraseDiag.enterWait.waitTicks n).doReset = (s.enterWait.waitTicks n).doReset.eraseDiag := by
      rw [State.waitTicks_eq, State.waitTicks_eq]
      rfl
    have hcycles : s.eraseDiag.cfg.waitCycles = s.cfg.waitCycles := rfl
    simp only [State.passWait, hr, hr', hend, hcut, hcycles]
    split <;> rfl

theorem commutes_runMicroStep (k : Upc) (row : MicroRow) : Commutes (State.runMicroStep k row) := by
  have hs := commutes_settleMicro k row
  cases row with
  | wait => exact (commutes_passWait hs).comp (f := State.atMicroStep k) fun _ => rfl
  | write a c d =>
    exact (commutes_perform hs).comp (f := fun s => (s.atMicroStep k).loadRow (.write a c d)) fun _ => rfl
  | read a c e st fatal =>
    exact (commutes_perform hs).comp (f := fun s => (s.atMicroStep k).loadRow (.read a c e st fatal)) fun _ => rfl

theorem commutes_startBringup : Commutes State.startBringup :=
  (commutes_enterMicroStep 0#4).comp (f := State.accept) fun _ => rfl

theorem commutes_resume : Commutes State.resume := by
  intro s
  have hrow : (if s.eraseDiag.seqActive then microRow s.eraseDiag.upc else none) =
      (if s.seqActive then microRow s.upc else none) := rfl
  have hupc : s.eraseDiag.upc = s.upc := rfl
  unfold State.resume
  rw [hrow, hupc]
  cases (if s.seqActive then microRow s.upc else none) with
  | none => exact commutes_runExchange commutes_settleSingle s
  | some row => exact commutes_runExchange (commutes_settleMicro s.upc row) s

/-! ### The response ports -/

theorem commutes_takeByte : Commutes State.takeByte := by
  intro s
  have hd : s.eraseDiag.rdata = s.rdata := rfl
  unfold State.takeByte
  rw [hd]
  cases s.rdata with
  | none => rfl
  | some b =>
    exact Commutes.ite (p := fun s => s.rdIdx + 1 < s.respLen.toNat)
      (f := fun s => { s with rdataOut := s.rdataOut ++ [b], rdIdx := s.rdIdx + 1 })
      (g := fun s => ({ s with rdataOut := s.rdataOut ++ [b], rdIdx := s.rdIdx + 1 } : State).goIdle)
      (fun _ => Iff.rfl) (fun _ => rfl) (fun _ => rfl) s

theorem commutes_takeResponse : Commutes State.takeResponse := by
  intro s
  rw [State.takeResponse_eq, State.takeResponse_eq]
  rfl

theorem commutes_deliver : Commutes State.deliver :=
  Commutes.ite (p := fun s => s.respValid = true) (fun _ => Iff.rfl)
    (Commutes.ite (p := fun s => s.pins.respReady = true) (fun _ => Iff.rfl) commutes_takeResponse (fun _ => rfl))
    (Commutes.ite (p := fun s => s.pins.rdataReady = true) (fun _ => Iff.rfl) commutes_takeByte (fun _ => rfl))

/-! ### exec and the step -/

/-- Every instruction goes on, by an operation that commutes with the erasure. -/
theorem exec_commutes (i : Instr) : ∃ f, Commutes f ∧ ∀ s, exec i s = .next (f s) := by
  cases i with
  | read | rdMr | rdVersionr => exact ⟨_, commutes_transportRead _ _ _, fun _ => rfl⟩
  | write | wrGar | wrSubr | wrShar | wrSipr | wrMr => exact ⟨_, commutes_transportWrite _ _ _, fun _ => rfl⟩
  | bringup => exact ⟨_, commutes_startBringup, fun _ => rfl⟩
  | s1w | s1wait | s1r | s2w | s2r | s3w | s3r | s4w | s4r | s5r => exact ⟨_, commutes_runMicroStep _ _, fun _ => rfl⟩
  | present => exact ⟨State.finishPresent, fun _ => rfl, fun _ => rfl⟩
  | absent => exact ⟨State.finishAbsent, fun _ => rfl, fun _ => rfl⟩

/-- Where a step of `s` goes on by such an operation, the step of `s` without diagnostics goes on likewise. -/
theorem Commutes.nextMap_eq {f : State → State} (hf : Commutes f) (s : State) :
    nextMap State.eraseDiag (.next (f s.clearDiag).tickPins) =
      nextMap State.eraseDiag (.next (f s.eraseDiag.clearDiag).tickPins) := by
  have hpre : Commutes (fun s => (f s.clearDiag).tickPins) :=
    commutes_tickPins.comp (hf.comp (f := State.clearDiag) fun _ => rfl)
  simp only [nextMap, hpre s, State.eraseDiag_eraseDiag]

end Sys2Proof.Machine

namespace Sys2Proof.Proofs

open Sys2Proof Sys2Proof.Machine

/-- Settles O59: the present action does not look at the diagnostics, and each action commutes with their erasure. -/
theorem traceAltersNothing : Obligations.TraceAltersNothing := by
  intro s
  have hact : s.eraseDiag.clearDiag.nextAction = s.clearDiag.nextAction := rfl
  have hupc : s.eraseDiag.upc = s.upc := rfl
  unfold step
  rw [hact, hupc]
  cases s.clearDiag.nextAction with
  | reset => exact Commutes.nextMap_eq (f := State.doReset) (fun _ => rfl) s
  | idle => exact Commutes.nextMap_eq (f := id) (fun _ => rfl) s
  | command d =>
    cases hd : decode (.cmd d) with
    | error e =>
      simp only [hd]
      exact Commutes.nextMap_eq (f := fun s => s.popCommand.refuseCommand) (fun _ => rfl) s
    | ok i =>
      obtain ⟨f, hf, he⟩ := exec_commutes i
      simp only [hd, he, advancePins]
      exact (hf.comp (f := State.popCommand) fun _ => rfl).nextMap_eq s
  | load => exact commutes_continueLoad.nextMap_eq s
  | microStep =>
    cases hd : decode (.ustep s.upc) with
    | error e => rfl
    | ok i =>
      obtain ⟨f, hf, he⟩ := exec_commutes i
      simp only [he, advancePins]
      exact hf.nextMap_eq s
  | resume => exact commutes_resume.nextMap_eq s
  | deliver => exact commutes_deliver.nextMap_eq s

end Sys2Proof.Proofs

/-! # What earlier commands leave behind

No operation of a READ or WRITE looks at what an earlier command has left in the block (10_state.md R20). -/

namespace Sys2Proof.Machine

open Sys2Proof

/-! ### The state without stale registers -/

/-- The state without what the command in progress does not look at: data a READ does not send, the response registers
while no response is valid, the rest of the last byte slot. -/
def State.eraseStale (s : State) : State :=
  { s with
    wbuf := if s.opQ = Device.OP_READ then [] else s.payload
    seqActive := false, upc := 0#4, rdIdx := 0
    respStatus := if s.respValid then s.respStatus else .ok
    respPresent := if s.respValid then s.respPresent else false
    respLen := if s.respValid then s.respLen else 0#16
    ch := { s.ch with shift := 0#8, mosi := false, bitCnt := 0#3 } }

theorem State.eraseStale_eraseStale (s : State) : s.eraseStale.eraseStale = s.eraseStale := by
  by_cases hv : s.respValid = true <;> by_cases ho : s.opQ = Device.OP_READ <;> simp [eraseStale, payload, hv, ho]

/-- A READ sends zeros, and anything else the data that was kept. -/
theorem State.eraseStale_txByte (s : State) (i : Nat) : s.eraseStale.txByte i = s.txByte i := by
  by_cases h : s.opQ = Device.OP_READ
  · have hw : Device.OP_READ ≠ Device.OP_WRITE := by decide
    simp [txByte, eraseStale, h, hw]
  · simp [txByte, eraseStale, payload, h]

/-- An observer does not see what is erased. -/
theorem State.eraseStale_outlook (s : State) : s.eraseStale.outlook = s.outlook := by
  by_cases hv : s.respValid = true <;> simp [outlook, eraseStale, response, hv]

theorem State.outlook_of_noResponse {s t : State} (hs : s.respValid = false) (ht : t.respValid = false)
    (hf : s.fsm = t.fsm) (hb : s.bus = t.bus) (hd : s.diagLog = t.diagLog) : s.outlook = t.outlook := by
  simp [outlook, hs, ht, hf, hb, hd]

/-- The operation does not look at stale registers. -/
def Blind (f : State → State) : Prop := ∀ s, (f s.eraseStale).eraseStale = (f s).eraseStale

theorem Blind.of_commutes {f : State → State} (h : ∀ s, f s.eraseStale = (f s).eraseStale) : Blind f := fun s => by
  rw [h, State.eraseStale_eraseStale]

theorem Blind.comp {f g : State → State} (hg : Blind g) (hf : Blind f) : Blind (fun s => g (f s)) := fun s =>
  calc (g (f s.eraseStale)).eraseStale
      = (g (f s.eraseStale).eraseStale).eraseStale := (hg _).symm
    _ = (g (f s).eraseStale).eraseStale := by rw [hf s]
    _ = (g (f s)).eraseStale := hg _

/-- Between states alike but for stale registers the operation makes no difference. -/
theorem Blind.congr {f : State → State} (hf : Blind f) {s t : State} (h : s.eraseStale = t.eraseStale) :
    (f s).eraseStale = (f t).eraseStale := by
  rw [← hf s, h, hf t]

/-- A choice that does not look at stale registers. -/
theorem Blind.ite {p : State → Prop} [DecidablePred p] {f g : State → State} (hp : ∀ s, p s.eraseStale ↔ p s)
    (hf : Blind f) (hg : Blind g) : Blind (fun s => if p s then f s else g s) := by
  intro s
  by_cases h : p s
  · simp only [(hp s).mpr h, h, if_true]
    exact hf s
  · simp only [mt (hp s).mp h, h, if_false]
    exact hg s

/-! ### The exchange -/

theorem blind_sampleFail : Blind State.sampleFail := .of_commutes fun _ => rfl

theorem blind_byteSlot : Blind State.byteSlot := by
  intro s
  simp only [State.byteSlot, Channel.shiftByte_eq, State.eraseStale_txByte]
  refine Eq.trans ?_ (State.eraseStale_eraseStale _)
  rfl

theorem blind_transfer (n : Nat) : Blind (State.transfer n) := by
  induction n with
  | zero => exact .of_commutes fun _ => rfl
  | succ n ih =>
    exact Blind.ite (p := fun s => s.sampleFail.stopsEarly = true) (fun _ => Iff.rfl) blind_sampleFail
      (ih.comp (blind_byteSlot.comp blind_sampleFail))

theorem blind_finishExchange : Blind State.finishExchange := fun s =>
  Blind.comp (g := State.closeExchange) (.of_commutes fun _ => rfl) (blind_transfer (s.frameLen - s.idx.toNat)) s

theorem blind_afterPulses (n : Nat) : Blind (State.afterPulses n) := blind_sampleFail.comp (blind_transfer _)

theorem blind_cutAt (m : Nat) (hm : m ≤ 8) : Blind (State.cutAt m) := by
  intro s
  obtain ⟨hb, hp⟩ := s.partSlot_eq m hm
  obtain ⟨hb', hp'⟩ := s.eraseStale.partSlot_eq m hm
  have hbits : (s.eraseStale.partSlot m).1 = (s.partSlot m).1 := by rw [hb, hb', State.eraseStale_txByte]; rfl
  have hpulses : (s.eraseStale.partSlot m).2.pulses = (s.partSlot m).2.pulses := by rw [hp, hp']; rfl
  simp only [State.cutAt, State.resetCutting, State.partSlot_cs, hbits, hpulses]
  rfl

theorem blind_cutExchange (n : Nat) : Blind (State.cutExchange n) :=
  Blind.comp (g := State.cutAt (n % 8)) (blind_cutAt _ (by omega)) (blind_afterPulses n)

/-- Whether `rst` cuts the exchange depends on no stale register. -/
theorem State.eraseStale_stopsEarly (n : Nat) (s : State) :
    (s.eraseStale.afterPulses n).stopsEarly = (s.afterPulses n).stopsEarly :=
  calc (s.eraseStale.afterPulses n).stopsEarly
      = (s.eraseStale.afterPulses n).eraseStale.stopsEarly := rfl
    _ = (s.afterPulses n).eraseStale.stopsEarly := by rw [blind_afterPulses n s]

theorem blind_runExchange {f : State → State} (hf : Blind f) : Blind (State.runExchange f) := by
  intro s
  have hend := hf.comp blind_finishExchange s
  have hp : s.eraseStale.pins.rstDuring = s.pins.rstDuring := rfl
  have hleft : s.eraseStale.frameLen - s.eraseStale.idx.toNat = s.frameLen - s.idx.toNat := rfl
  unfold State.runExchange
  rw [hp]
  cases s.pins.rstDuring with
  | none => exact hend
  | some n =>
    simp only [s.eraseStale_stopsEarly, hleft]
    split
    · exact blind_cutExchange n s
    · exact hend

/-! ### The end of a READ or WRITE -/

theorem State.eraseStale_xferEvent (s : State) : s.eraseStale.xferEvent = s.xferEvent := by
  by_cases h : s.opQ = Device.OP_READ <;> simp [xferEvent, eraseStale, payload, h]

theorem blind_emitXfer : Blind State.emitXfer := by
  refine .of_commutes fun s => ?_
  have hq : s.eraseStale.traceQ = s.traceQ := rfl
  have ht : s.eraseStale.cfg = s.cfg := rfl
  simp only [State.emitXfer, State.emit, State.eraseStale_xferEvent, hq, ht]
  repeat' split
  all_goals rfl

theorem blind_respond (st : Status) (p : Bool) (l : Half) : Blind (State.respond st p l) :=
  .of_commutes fun _ => rfl

theorem blind_settleSingle : Blind State.settleSingle :=
  Blind.ite (p := fun s => s.failSeen = true) (fun _ => Iff.rfl)
    ((blind_respond .busFailure false 0x0000#16).comp blind_emitXfer)
    (Blind.ite (p := fun s => s.opQ = Device.OP_READ) (fun _ => Iff.rfl)
      (fun s => (blind_respond .ok false s.lenQ).congr (blind_emitXfer s))
      ((blind_respond .ok false 0x0000#16).comp blind_emitXfer))

/-- Two exchanges that begin alike but for stale registers lead to the same. -/
theorem State.performSingle_outlook {s t : State} (h : s.beginExchange.eraseStale = t.beginExchange.eraseStale) :
    (s.perform settleSingle).outlook = (t.perform settleSingle).outlook := by
  have hrun : (s.perform settleSingle).eraseStale = (t.perform settleSingle).eraseStale :=
    (blind_runExchange blind_settleSingle).congr h
  rw [← eraseStale_outlook, hrun, eraseStale_outlook]

/-! ### The commands -/

theorem State.transportRead_outlook (s : State) (hv : s.respValid = false) (a : Half) (c : Byte) (l : Half) :
    (s.transportRead a c l).outlook = (s.forgetPast.transportRead a c l).outlook := by
  have hl : s.forgetPast.lenOk l = s.lenOk l := rfl
  unfold transportRead
  rw [hl]
  split
  · refine performSingle_outlook ?_
    simp [eraseStale, beginExchange, forgetPast, accept, latch, hv]
  · rfl

theorem State.transportWrite_outlook (s : State) (hv : s.respValid = false) (a : Half) (c : Byte) (l : Half) :
    (s.transportWrite a c l).outlook = (s.forgetPast.transportWrite a c l).outlook := by
  have hl : s.forgetPast.lenOk l = s.lenOk l := rfl
  have hloaded : (s.forgetPast.accept.latch Device.OP_WRITE a c l).enterLoad.collect.loaded =
      (s.accept.latch Device.OP_WRITE a c l).enterLoad.collect.loaded := rfl
  unfold transportWrite continueLoad
  rw [hl, hloaded]
  split
  · split
    · refine performSingle_outlook ?_
      simp [eraseStale, payload, beginExchange, collect, wdataOffered, wdataMissing, enterLoad, forgetPast, accept,
        latch, hv]
    · exact outlook_of_noResponse hv hv rfl rfl rfl
  · rfl

theorem State.startBringup_outlook (s : State) (hv : s.respValid = false) :
    s.startBringup.outlook = s.forgetPast.startBringup.outlook :=
  outlook_of_noResponse hv hv rfl rfl rfl

end Sys2Proof.Machine

namespace Sys2Proof.Proofs

open Sys2Proof Sys2Proof.Machine

/-- Settles O60: a READ, a WRITE and the acceptance of a BRINGUP do not look at what is forgotten, and the named
accesses are READs and WRITEs. -/
theorem outcomeForgetsPast : Obligations.OutcomeForgetsPast := by
  intro s a c l hv i hi
  have hread a c l := congrArg some (s.transportRead_outlook hv a c l)
  have hwrite a c l := congrArg some (s.transportWrite_outlook hv a c l)
  simp only [List.mem_cons, List.not_mem_nil, or_false] at hi
  rcases hi with rfl | rfl | rfl | rfl | rfl | rfl | rfl | rfl | rfl | rfl
  exacts [hread _ _ _, hwrite _ _ _, congrArg some (s.startBringup_outlook hv), hwrite _ _ _, hwrite _ _ _,
    hwrite _ _ _, hwrite _ _ _, hread _ _ _, hwrite _ _ _, hread _ _ _]

end Sys2Proof.Proofs
